-- ==== Sys2Proof/Word.lean ====
section
/-! DEFINITION. The words of the machine: bytes, command words, host register words, and byte strings of
a fixed length (00_scope R14). -/

namespace Sys2Proof

/-- A byte, an unsigned 8-bit value (R14). -/
abbrev Byte := BitVec 8

/-- A command word of the 64-bit command port (30_encoding R48, R51). -/
abbrev CmdWord := BitVec 64

/-- A host register word of the 32-bit read port (20_memory R42). -/
abbrev RegWord := BitVec 32

/-- `Bytes m`: a list of exactly `m` bytes, index 0 first (R14). -/
structure Bytes (m : Nat) where
  /-- The bytes, index 0 first. -/
  toList : List Byte
  /-- There are exactly `m` of them. -/
  length_eq : toList.length = m
deriving DecidableEq, Repr

end Sys2Proof
end

