-- ==== Sys2Proof/Config.lean ====
section
/-! DEFINITION. The configuration record `CFG` (00_scope section 3), its well-formedness check (R13), the
configuration of the device itself, and the cycle count (92 D31, D32). Everything here is fixed when the engine is
built. `Config.device` and `Config.latency` are the two parameters the spec leaves OPEN: opaque constants, so that
nothing proved rests on what they are. -/

namespace Sys2Proof

/-- The six permutation call sites (R9). -/
inductive Site
  | init | aadInt | aadLast | msgInt | msgLast | fin
deriving DecidableEq, Repr

/-- The eight domain-separation masks, by name (00_scope section 3, R10). -/
inductive Mask
  | aadInt | aadLast | aadLastFull | noAad | msgInt | msgLast | msgLastFull | emptyMsg
deriving DecidableEq, Repr

/-- `FULL_POLICY`: what an exact final block does (R11). -/
inductive FullPolicy
  | extraBlock | flipDs
deriving DecidableEq, Repr

/-- `KEY_INJECT`: whether the key goes in before or after the `FIN` permutation (R12). -/
inductive KeyInject
  | before | after
deriving DecidableEq, Repr

/-- The phase register's five values (10_state R26). -/
inductive Phase
  | uninitialized | initialized | absorbingAad | processing | finalized
deriving DecidableEq, Repr

/-- The configuration record `CFG` (00_scope section 3, R2, R7 to R12). `c` is not a field: it is `S - r`. -/
structure Cfg where
  /-- `S`: state width in bytes. -/
  S : Nat
  /-- `r`: rate in bytes. -/
  r : Nat
  /-- `t`: tag length in bytes. -/
  t : Nat
  /-- `k`: key length in bytes. -/
  k : Nat
  /-- `n`: nonce length in bytes. -/
  n : Nat
  /-- `PERMUTE`: the permutation core at each call site (R9). -/
  permute : Site → Bytes S → Bytes S
  /-- `ROUNDS`: round count per call site; no rule reads it (R9). -/
  rounds : Site → Nat
  /-- `INIT_LOAD`: the initial state loaded from key and nonce (40_datapath R62). -/
  initLoad : Bytes k → Bytes n → Bytes S
  /-- `INIT_POST`: the mask XORed after the initialisation permutation (R62). -/
  initPost : Bytes k → Bytes S
  /-- `DS_AAD_INT`. -/
  dsAadInt : Bytes S
  /-- `DS_AAD_LAST`. -/
  dsAadLast : Bytes S
  /-- `DS_AAD_LAST_FULL`. -/
  dsAadLastFull : Bytes S
  /-- `DS_NO_AAD`. -/
  dsNoAad : Bytes S
  /-- `DS_MSG_INT`. -/
  dsMsgInt : Bytes S
  /-- `DS_MSG_LAST`. -/
  dsMsgLast : Bytes S
  /-- `DS_MSG_LAST_FULL`. -/
  dsMsgLastFull : Bytes S
  /-- `DS_EMPTY_MSG`. -/
  dsEmptyMsg : Bytes S
  /-- `PER_BLOCK_DS`: the variant domain-separates every block (R10). -/
  perBlockDs : Bool
  /-- `PAD_MARKER` (R11). -/
  padMarker : Byte
  /-- `FULL_POLICY` (R11). -/
  fullPolicy : FullPolicy
  /-- `KEY_INJECT` (R12). -/
  keyInject : KeyInject
  /-- `KEY_OFFSET` (R12). -/
  keyOffset : Nat
  /-- `TAG_OFFSET` (R12). -/
  tagOffset : Nat
  /-- `VARIANT_ID`, reported in PARAM1 (10_state R31). -/
  variantId : Byte

/-- `c = S - r`, the capacity in bytes (R7). -/
def Cfg.c (C : Cfg) : Nat := C.S - C.r

/-- The mask a name stands for (R10). -/
def Cfg.mask (C : Cfg) : Mask → Bytes C.S
  | .aadInt => C.dsAadInt
  | .aadLast => C.dsAadLast
  | .aadLastFull => C.dsAadLastFull
  | .noAad => C.dsNoAad
  | .msgInt => C.dsMsgInt
  | .msgLast => C.dsMsgLast
  | .msgLastFull => C.dsMsgLastFull
  | .emptyMsg => C.dsEmptyMsg

/-- The clauses of R13 a configuration can break, by name. -/
inductive ConfigFlaw
  /-- `1 <= r` fails. -/
  | rateZero
  /-- `r < S` fails. -/
  | noCapacity
  /-- `S <= 255` fails. -/
  | stateTooWide
  /-- `1 <= t <= 255` fails. -/
  | tagLength
  /-- `1 <= k <= 255` fails. -/
  | keyLength
  /-- `1 <= n <= 255` fails. -/
  | nonceLength
  /-- `KEY_OFFSET + k <= S` fails. -/
  | keyOutsideState
  /-- `TAG_OFFSET + t <= S` fails. -/
  | tagOutsideState
  /-- `PAD_MARKER != 0x00` fails. -/
  | padMarkerZero
  /-- `PER_BLOCK_DS = false` with a non-zero interior mask. -/
  | interiorMask
deriving DecidableEq, Repr

/-- The clauses of R13 that `C` breaks. -/
def Cfg.flaws (C : Cfg) : List ConfigFlaw :=
  (if 1 ≤ C.r then [] else [.rateZero]) ++
  (if C.r < C.S then [] else [.noCapacity]) ++
  (if C.S ≤ 255 then [] else [.stateTooWide]) ++
  (if 1 ≤ C.t ∧ C.t ≤ 255 then [] else [.tagLength]) ++
  (if 1 ≤ C.k ∧ C.k ≤ 255 then [] else [.keyLength]) ++
  (if 1 ≤ C.n ∧ C.n ≤ 255 then [] else [.nonceLength]) ++
  (if C.keyOffset + C.k ≤ C.S then [] else [.keyOutsideState]) ++
  (if C.tagOffset + C.t ≤ C.S then [] else [.tagOutsideState]) ++
  (if C.padMarker ≠ 0 then [] else [.padMarkerZero]) ++
  (if C.perBlockDs = true ∨ (C.dsAadInt.toList = List.replicate C.S 0 ∧ C.dsMsgInt.toList = List.replicate C.S 0)
    then [] else [.interiorMask])

/-- Well-formedness of `CFG` (R13). -/
def Cfg.wellFormed (C : Cfg) : Bool := C.flaws.isEmpty

/-- The narrowest configuration R13 admits, with nothing in it. It only shows that well-formed configurations exist
(`Config.device` is one of them, not this one); no rule and no reset value uses it. -/
def Cfg.narrowest : Cfg where
  S := 2
  r := 1
  t := 1
  k := 1
  n := 1
  permute := fun _ x => x
  rounds := fun _ => 0
  initLoad := fun key nonce => ⟨key.toList ++ nonce.toList, by simp [key.length_eq, nonce.length_eq]⟩
  initPost := fun _ => ⟨[0, 0], rfl⟩
  dsAadInt := ⟨[0, 0], rfl⟩
  dsAadLast := ⟨[0, 0], rfl⟩
  dsAadLastFull := ⟨[0, 0], rfl⟩
  dsNoAad := ⟨[0, 0], rfl⟩
  dsMsgInt := ⟨[0, 0], rfl⟩
  dsMsgLast := ⟨[0, 0], rfl⟩
  dsMsgLastFull := ⟨[0, 0], rfl⟩
  dsEmptyMsg := ⟨[0, 0], rfl⟩
  perBlockDs := false
  padMarker := 1
  fullPolicy := .extraBlock
  keyInject := .before
  keyOffset := 0
  tagOffset := 0
  variantId := 0

/-- A configuration together with its R13 check: an ill-formed one cannot be built. -/
structure CheckedCfg where
  /-- The configuration. -/
  cfg : Cfg := Cfg.narrowest
  /-- It passes R13. -/
  ok : cfg.wellFormed = true := by decide
deriving Inhabited

/-- "A model must refuse a configuration that fails this check" (R13; 93 row 2): every broken clause is named. -/
def Cfg.check (C : Cfg) : Except (List ConfigFlaw) CheckedCfg :=
  if h : C.wellFormed = true then .ok ⟨C, h⟩ else .error C.flaws

/-- The public inputs R99 lists: `phase`, `dir`, `pending`, `|abuf|` and `|dbuf|` at the start of the command. -/
structure PublicView where
  /-- `phase`. -/
  phase : Phase
  /-- `dir`. -/
  dir : Bool
  /-- `pending`. -/
  pending : Bool
  /-- `|abuf|`. -/
  abufLen : Nat
  /-- `|dbuf|`. -/
  dbufLen : Nat
deriving DecidableEq, Repr

/-- The configuration this engine was built with (R2; 92 D31, OPEN): some well-formed `CFG`. DESIGN CHOICE [log 1]: an
opaque constant, so that a theorem about it is a theorem about every well-formed configuration. Safe. -/
opaque Config.device : CheckedCfg

/-- `latency(cfg, word, public state)`, the cycles a command takes (92 D32, OPEN; R98). Its type lets it depend on nothing
but what R99 allows. No rule reads it [log 10]. Safe. -/
opaque Config.latency : Cfg → CmdWord → PublicView → Nat

end Sys2Proof
end

