-- ==== Sys2Proof/Machine/Bytes.lean ====
section
/-! DEFINITION. Byte-list operations the datapath uses (00_scope R14, R15): fixed-width reading, slices, the ranged XOR. -/

namespace Sys2Proof

/-- The first `m` bytes of a list, filled with zeros if it is shorter. -/
def fitList : Nat → List Byte → List Byte
  | 0, _ => []
  | m + 1, [] => 0 :: fitList m []
  | m + 1, b :: l => b :: fitList m l

theorem fitList_length : ∀ (m : Nat) (l : List Byte), (fitList m l).length = m
  | 0, _ => rfl
  | m + 1, [] => congrArg Nat.succ (fitList_length m [])
  | m + 1, _ :: l => congrArg Nat.succ (fitList_length m l)

/-- A byte list read at a width of `m` bytes. In every state the engine can reach the list has that width and this
changes nothing (R33); for other lists the reading is the model's [log 3]. -/
def Bytes.fit (m : Nat) (l : List Byte) : Bytes m := ⟨fitList m l, fitList_length m l⟩

/-- `0^m`: `m` zero bytes (R14). -/
def zeroBytes (m : Nat) : List Byte := List.replicate m 0

/-- `x[a..a+m)` (R14). -/
def slice (x : List Byte) (a m : Nat) : List Byte := (x.drop a).take m

/-- `st[a..a+|v|) XOR= v`: byte `a+i` becomes `st[a+i] XOR v[i]`, every other byte stays (R15). -/
def xorAt : Nat → List Byte → List Byte → List Byte
  | _, [], _ => []
  | _, st, [] => st
  | 0, s :: st, b :: v => (s ^^^ b) :: xorAt 0 st v
  | a + 1, s :: st, b :: v => s :: xorAt a st (b :: v)

/-- The loop of `Duplex` (40_datapath R66) over the state bytes and the input bytes: the new state bytes and the output
bytes. Encrypting leaves the output byte in the state, decrypting the input byte: the ciphertext byte either way. -/
def duplexBytes (enc : Bool) : List Byte → List Byte → List Byte × List Byte
  | st, [] => (st, [])
  | [], _ :: _ => ([], [])
  | s :: st, x :: xs =>
    ((if enc then s ^^^ x else x) :: (duplexBytes enc st xs).1, (s ^^^ x) :: (duplexBytes enc st xs).2)

/-- `acc` of `TagEqual` (R70): the OR of all byte differences, every pair examined. -/
def tagDifference (a b : List Byte) : Byte := (List.zipWith (· ^^^ ·) a b).foldl (· ||| ·) 0

/-- `TagEqual(a, b)` (R70): `acc` tested once, at the end. -/
def tagEqual (a b : List Byte) : Bool := tagDifference a b == 0

end Sys2Proof
end

