-- ==== Sys2Proof/Machine/Variants.lean ====
section
/-! DEFINITION. Which configuration an engine instance was built with: the device's own (opaque), or one of the two test
configurations that 95_test_vectors section 2 defines in full (92 D31: "gives two test instances, TOY-A and TOY-B").
TOY is the spec's fixture, not a cipher. -/

namespace Sys2Proof

/-- `rotl8(b, s)` of 95 section 2. -/
def rotl8 (b : Byte) (s : Nat) : Byte := (b <<< s) ||| (b >>> (8 - s))

/-- `x[i]` with the index mod 16 (95 section 2). -/
def toyByte (x : List Byte) (i : Nat) : Byte := x.getD (i % 16) 0

/-- The ARX pass of one TOYPERM round, increasing `i`, in place. -/
def toyArxPass (rc : Byte) (x : List Byte) : List Byte :=
  (List.range 16).foldl
    (fun x i => x.set i (toyByte x i + (rotl8 (toyByte x (i + 1) ^^^ toyByte x (i + 15)) 3 ^^^ rc))) x

/-- The XOR pass of one TOYPERM round, decreasing `i`, in place. -/
def toyXorPass (x : List Byte) : List Byte :=
  (List.range 16).reverse.foldl (fun x i => x.set i (toyByte x i ^^^ rotl8 (toyByte x (i + 5)) 1)) x

/-- The site constant `sc` of TOYPERM. -/
def toySiteConst : Site → Byte
  | .init => 0x11
  | .aadInt => 0x22
  | .aadLast => 0x33
  | .msgInt => 0x44
  | .msgLast => 0x55
  | .fin => 0x66

/-- `ROUNDS` of TOY-A and TOY-B. -/
def toyRounds : Site → Nat
  | .init => 4
  | .aadInt => 2
  | .aadLast => 3
  | .msgInt => 2
  | .msgLast => 3
  | .fin => 4

/-- `TOYPERM(site, x)` (95 section 2). -/
def toyPerm (site : Site) (x : List Byte) : List Byte :=
  (List.range (toyRounds site)).foldl
    (fun x j => toyXorPass (toyArxPass (toySiteConst site + BitVec.ofNat 8 j) x)) x

/-- A TOY mask: fifteen zero bytes, then `b`. -/
def toyMask (b : Byte) : Bytes 16 := Bytes.fit 16 (zeroBytes 15 ++ [b])

/-- TOY-A (95 section 2). -/
def toyA : Cfg where
  S := 16
  r := 4
  t := 8
  k := 8
  n := 4
  permute := fun site x => Bytes.fit 16 (toyPerm site x.toList)
  rounds := toyRounds
  initLoad := fun key nonce => Bytes.fit 16 ([0x4D, 0x10, 0x04, 0x08] ++ key.toList ++ nonce.toList)
  initPost := fun key => Bytes.fit 16 (zeroBytes 8 ++ key.toList)
  dsAadInt := toyMask 0
  dsAadLast := toyMask 0x01
  dsAadLastFull := toyMask 0x02
  dsNoAad := toyMask 0x04
  dsMsgInt := toyMask 0
  dsMsgLast := toyMask 0x10
  dsMsgLastFull := toyMask 0x20
  dsEmptyMsg := toyMask 0x40
  perBlockDs := false
  padMarker := 0x80
  fullPolicy := .flipDs
  keyInject := .before
  keyOffset := 8
  tagOffset := 8
  variantId := 0xA1

/-- TOY-B (95 section 2). -/
def toyB : Cfg where
  S := 16
  r := 4
  t := 8
  k := 8
  n := 4
  permute := fun site x => Bytes.fit 16 (toyPerm site x.toList)
  rounds := toyRounds
  initLoad := fun key nonce => Bytes.fit 16 ([0x4D, 0x10, 0x04, 0x08] ++ key.toList ++ nonce.toList)
  initPost := fun _ => Bytes.fit 16 (zeroBytes 16)
  dsAadInt := toyMask 0x08
  dsAadLast := toyMask 0x01
  dsAadLastFull := toyMask 0x02
  dsNoAad := toyMask 0x04
  dsMsgInt := toyMask 0x80
  dsMsgLast := toyMask 0x10
  dsMsgLastFull := toyMask 0x20
  dsEmptyMsg := toyMask 0x40
  perBlockDs := true
  padMarker := 0x80
  fullPolicy := .extraBlock
  keyInject := .after
  keyOffset := 8
  tagOffset := 8
  variantId := 0xB2

/-- Which configuration record an instance was built with (00_scope R2) [log 1]. -/
inductive Variant
  /-- The engine itself: `Config.device`, any well-formed configuration. -/
  | device
  /-- The fixture TOY-A. -/
  | toyA
  /-- The fixture TOY-B. -/
  | toyB
deriving DecidableEq, Repr

/-- The configuration record of an instance. -/
def Variant.cfg : Variant → Cfg
  | .device => Config.device.cfg
  | .toyA => Sys2Proof.toyA
  | .toyB => Sys2Proof.toyB

end Sys2Proof
end

