-- ==== Sys2Proof/Machine/State.lean ====
section
/-! DEFINITION. The state of one engine instance: the architectural tuple of 10_state R19, the command in flight that
30_encoding R50 implies, and the host's side of the ports (R48). Plain data. Each update has a name; its field lemmas
stand in Laws/State.lean. -/

namespace Sys2Proof.Machine

/-- The result codes of STATUS.ERR (60_exceptions R86). -/
inductive ResultCode
  | ok | invalidKeyLength | invalidNonceLength | protocolSequenceError | notInitialized | bufferTooShort
  | authenticationFailure | illegalCommand
deriving DecidableEq, Repr

/-- The architectural state of R19 but for `busy`: what one command transforms atomically (20_memory R36). -/
structure Arch where
  /-- The phase register (R26). -/
  phase : Phase
  /-- The direction flag, true when encrypting (R27). -/
  dir : Bool
  /-- The state register, `S` bytes (R22). -/
  st : List Byte
  /-- The key register, `k` bytes (R23). -/
  key : List Byte
  /-- The nonce register, `n` bytes (R23). -/
  nonce : List Byte
  /-- The AAD residue (R24). -/
  abuf : List Byte
  /-- The message residue (R24). -/
  dbuf : List Byte
  /-- The pending-permutation flag (R25). -/
  pending : Bool
  /-- The tag register, absent or `t` bytes (R28). -/
  tag : Option (List Byte)
  /-- STATUS.ERR (R29). -/
  err : ResultCode
  /-- STATUS.OLEN (R29). -/
  olen : BitVec 16
deriving DecidableEq, Repr

/-- Where the command in flight stands (R50). -/
inductive Flight
  /-- No command is in flight. -/
  | idle
  /-- Step 3: the accepted word and the operand bytes taken so far. -/
  | operand (word : CmdWord) (taken : List Byte)
  /-- Step 5: the output bytes not yet emitted, and the state that completion commits. -/
  | output (left : List Byte) (after : Arch)
deriving DecidableEq, Repr

/-- One engine instance and the host's side of its ports. -/
structure State where
  /-- Which configuration record the instance was built with: the MODEL's field, for the argument `CFG` (R2) [log 1]. -/
  variant : Variant
  /-- The architectural state (R19). -/
  arch : Arch
  /-- STATUS.BUSY (R29). -/
  busy : Bool
  /-- The command in flight (R50) [log 7]. -/
  flight : Flight
  /-- The level the host drives on `rst_n` (R48, R94) [log 9]. -/
  rstN : Bool
  /-- The command words the host presents, in order (R48) [log 4]. -/
  cmdq : List CmdWord
  /-- The input bytes the host presents, in order (R48) [log 4]. -/
  din : List Byte
  /-- The output bytes delivered to the host, in order (R48) [log 4]. -/
  dout : List Byte
  /-- How many more output bytes the host accepts; `none`: all of them (R96 duty 3) [log 4]. -/
  room : Option Nat
deriving DecidableEq, Repr

/-- Why the engine is stuck: it "waits for ever, and a model has no next step until hardware reset" (93 section 1). -/
inductive Fault
  /-- The host presents fewer operand bytes than the command takes: stuck in the operand step (R96 duty 1; 93 row 10).
  Raised by every command that takes an operand. Safe. -/
  | operandStarved
  /-- The host does not accept the command's whole output: stuck in the output step (R96 duty 3; 93 row 11). Raised by
  DATA and FINAL. Safe. -/
  | outputBlocked
deriving DecidableEq, Repr

/-- Why a command has no meaning in this model. -/
inductive Refusal
  /-- The command is not modelled yet; only exec's arms may answer so, and none does. Safe. -/
  | notModelled (mnemonic : String)
deriving DecidableEq, Repr

/-! ### Named updates of the architectural state -/

def Arch.setPhase (v : Phase) (a : Arch) : Arch := { a with phase := v }
def Arch.setSt (v : List Byte) (a : Arch) : Arch := { a with st := v }
def Arch.setAbuf (v : List Byte) (a : Arch) : Arch := { a with abuf := v }
def Arch.setDbuf (v : List Byte) (a : Arch) : Arch := { a with dbuf := v }
def Arch.setPending (v : Bool) (a : Arch) : Arch := { a with pending := v }
def Arch.setTag (v : Option (List Byte)) (a : Arch) : Arch := { a with tag := v }

/-- INIT's load of the key, nonce and direction (R77). -/
def Arch.setSession (key nonce : List Byte) (dir : Bool) (a : Arch) : Arch :=
  { a with key := key, nonce := nonce, dir := dir }

/-- STATUS.ERR and STATUS.OLEN, written together at completion (R29). -/
def Arch.setStatus (err : ResultCode) (olen : Nat) (a : Arch) : Arch :=
  { a with err := err, olen := BitVec.ofNat 16 olen }

/-- The architectural state after hardware reset, for the configuration `C` (10_state R35). -/
def Arch.reset (C : Cfg) : Arch where
  phase := .uninitialized
  dir := false
  st := List.replicate C.S 0
  key := List.replicate C.k 0
  nonce := List.replicate C.n 0
  abuf := []
  dbuf := []
  pending := false
  tag := none
  err := .ok
  olen := 0

/-- What R99 calls public of a state. -/
def Arch.publicView (a : Arch) : PublicView :=
  { phase := a.phase, dir := a.dir, pending := a.pending, abufLen := a.abuf.length, dbufLen := a.dbuf.length }

/-- The configuration record of the instance. -/
def State.cfg (s : State) : Cfg := s.variant.cfg

/-- The state after hardware reset of an instance built with `v`: nothing presented yet, `rst_n` released [log 4, 9]. -/
def State.resetOf (v : Variant) : State where
  variant := v
  arch := Arch.reset v.cfg
  busy := false
  flight := .idle
  rstN := true
  cmdq := []
  din := []
  dout := []
  room := none

/-- The machine right after reset (R35, R94): the device, whose configuration is open. -/
def State.reset : State := State.resetOf .device

end Sys2Proof.Machine
end

