-- ==== Sys2Proof/Machine/Ops.lean ====
section
/-! DEFINITION. The shared operations every command is built from: the working state of one command with the stream
primitives of 00_scope R16, completion with and without an error (41_session R76, 60_exceptions R87), zeroisation (R73),
hardware reset (R94), and the delivery of a command's output to the host (30_encoding R50). The engine has no memory and no
trap: an error is a result code, `raise` is the one operation that takes it, and nothing returns from it (R90). -/

namespace Sys2Proof.Machine

/-- One run of the permutation core, as R61 and R69 name it: at a site, with a mask or with none. Logged per command, so
that R61 and R99 can be stated; it is no state of the engine [log 11]. -/
structure PermCall where
  /-- The call site (R9). -/
  site : Site
  /-- The mask XORed in just before (R60); none at `INIT` and `FIN`. -/
  mask : Option Mask
deriving DecidableEq, Repr

/-- What one command works on: the architectural state, the operand bytes not yet taken, the output so far, and the log
of permutation calls. -/
structure Work where
  /-- The architectural state. -/
  arch : Arch
  /-- The operand bytes `InTake` has not taken yet (R16). -/
  operand : List Byte
  /-- The output bytes `OutEmit` has appended, in order (R16). -/
  out : List Byte
  /-- The permutation calls made, in order. -/
  calls : List PermCall
deriving DecidableEq, Repr

/-- A command begins on the state as it was when the command was accepted, with its whole operand (R36). -/
def Work.start (a : Arch) (operand : List Byte) : Work :=
  { arch := a, operand := operand, out := [], calls := [] }

/-- A change of the architectural state. -/
def Work.onArch (f : Arch → Arch) (x : Work) : Work := { x with arch := f x.arch }

/-- `InTake(m)`: the next `m` operand bytes, earliest first (R16, R38). -/
def inTake (m : Nat) (x : Work) : List Byte × Work :=
  (x.operand.take m, { x with operand := x.operand.drop m })

/-- `OutEmit(o)` (R16). -/
def outEmit (o : List Byte) (x : Work) : Work := { x with out := x.out ++ o }

/-- `finish OK` (R76): `err <- OK`, `olen <-` the number of bytes emitted. -/
def finish (x : Work) : Work := x.onArch (Arch.setStatus .ok x.out.length)

/-- `raise E` (R76, R87): the command completes with `err <- E` and `olen <- 0`; every change made before stands. This is
the engine's only way to take an error, and it enters no handler (R90). -/
def raise (e : ResultCode) (x : Work) : Work := x.onArch (Arch.setStatus e 0)

/-- `Zeroise()` (R73): every element of the architectural state except STATUS. -/
def zeroiseArch (C : Cfg) (a : Arch) : Arch :=
  { a with
    phase := .uninitialized, dir := false
    st := zeroBytes C.S, key := zeroBytes C.k, nonce := zeroBytes C.n
    abuf := [], dbuf := [], pending := false, tag := none }

/-- `Zeroise()` on the working state. -/
def zeroise (C : Cfg) (x : Work) : Work := x.onArch (zeroiseArch C)

/-- An illegal word completes with `IllegalCommand`, taking no operand byte and changing nothing else (R54, R87). -/
def illegalRule (x : Work) : Work := raise .illegalCommand x

/-- Hardware reset (70_reset R94): every element takes its reset value, a command in flight is aborted and leaves nothing.
The host's streams are the host's and stay [log 9]. -/
def State.hwReset (s : State) : State :=
  { s with arch := Arch.reset s.cfg, busy := false, flight := .idle }

/-- The state in which a command has completed (R50 step 6): its result committed, its output delivered, `busy` 0. -/
def State.complete (a : Arch) (out : List Byte) (s : State) : State :=
  { s with
    arch := a, busy := false, flight := .idle
    dout := s.dout ++ out, room := s.room.map (· - out.length) }

/-- Whether the host accepts `m` more output bytes (R96 duty 3). -/
def accepts (room : Option Nat) (m : Nat) : Bool :=
  match room with
  | none => true
  | some q => decide (m ≤ q)

/-- R50 steps 5 and 6: the whole output is emitted, then the command completes; stuck if the host does not accept it. -/
def deliver (a : Arch) (out : List Byte) (s : State) : Host.Outcome State Fault Refusal :=
  if accepts s.room out.length then .next (s.complete a out) else .fault .outputBlocked

/-- R50 steps 3 to 6 for a command that takes `need` operand bytes and runs `rule`: the operand is taken in full, the rule
runs as one transition, its output is delivered. Stuck if the host presents too few operand bytes (R96 duty 1). -/
def runCommand (need : Nat) (rule : Work → Work) (s : State) : Host.Outcome State Fault Refusal :=
  if need ≤ s.din.length then
    let x := rule (Work.start s.arch (s.din.take need))
    deliver x.arch x.out { s with din := s.din.drop need }
  else .fault .operandStarved

/-- An illegal word, from the word to completion (R54: 0 operand bytes). -/
def completeIllegal (s : State) : Host.Outcome State Fault Refusal := runCommand 0 illegalRule s

end Sys2Proof.Machine
end

