-- ==== Sys2Proof/Machine/Datapath.lean ====
section
/-! DEFINITION. The datapath procedures of 40_datapath that the commands call: permutation core controller (R60 to R62),
padding (R63), rate absorber of both streams (R64 to R68), tag derivation (R69), drain counts (R71). -/

namespace Sys2Proof.Machine

/-- `PERMUTE(site, x)` on a byte list (R9). -/
def permuteBytes (C : Cfg) (site : Site) (x : List Byte) : List Byte := (C.permute site (Bytes.fit C.S x)).toList

/-- `st[a..a+|v|) XOR= v` (R15). -/
def xorState (a : Nat) (v : List Byte) (x : Work) : Work := x.onArch fun s => s.setSt (xorAt a s.st v)

/-- `st <- PERMUTE(site, st)`, logged (R9). -/
def permutePlain (C : Cfg) (site : Site) (x : Work) : Work :=
  { x with
    arch := x.arch.setSt (permuteBytes C site x.arch.st)
    calls := x.calls ++ [{ site := site, mask := none }] }

/-- `PermuteAt(site, d)` with the mask named `m` (R60, R61): the mask is XORed in immediately before the permutation. -/
def permuteAt (C : Cfg) (site : Site) (m : Mask) (x : Work) : Work :=
  { x with
    arch := x.arch.setSt (permuteBytes C site (xorAt 0 x.arch.st (C.mask m).toList))
    calls := x.calls ++ [{ site := site, mask := some m }] }

/-- The deferred permutation of an interior block: run if `pending = 1` (R25, R64, R65, R67, R68). -/
def permuteIfPending (C : Cfg) (site : Site) (m : Mask) (x : Work) : Work :=
  if x.arch.pending then permuteAt C site m x else x

/-- `InitState()` (R62). -/
def initState (C : Cfg) (x : Work) : Work :=
  let key := Bytes.fit C.k x.arch.key
  let loaded := x.onArch (Arch.setSt (C.initLoad key (Bytes.fit C.n x.arch.nonce)).toList)
  xorState 0 (C.initPost key).toList (permutePlain C .init loaded)

/-- `Pad(res)` (R63). -/
def pad (C : Cfg) (res : List Byte) : List Byte := res ++ [C.padMarker] ++ zeroBytes (C.r - res.length - 1)

/-- `AbsorbAadBlock(b)` (R64). -/
def absorbAadBlock (C : Cfg) (b : List Byte) (x : Work) : Work :=
  (xorState 0 b (permuteIfPending C .aadInt .aadInt x)).onArch (Arch.setPending true)

/-- The final-block part of `CloseAad` (R65): case A (empty stream), case B (padded final block) or case C (exact stream
under `FLIP_DS`), with the mask it chooses. -/
def closeAadBlock (C : Cfg) (res : List Byte) (x : Work) : Work × Mask :=
  if x.arch.pending = false ∧ res = [] then (xorState 0 (pad C []) x, .noAad)
  else if res ≠ [] ∨ C.fullPolicy = .extraBlock then
    (xorState 0 (pad C res) (permuteIfPending C .aadInt .aadInt x), .aadLast)
  else (x, .aadLastFull)

/-- `CloseAad()` (R65). -/
def closeAad (C : Cfg) (x : Work) : Work :=
  let y := closeAadBlock C x.arch.abuf x
  (permuteAt C .aadLast y.2 y.1).onArch fun a => (a.setAbuf []).setPending false

/-- `Duplex(x)` (R66): the output bytes, and the working state with the rate bytes replaced. -/
def duplex (b : List Byte) (x : Work) : List Byte × Work :=
  let p := duplexBytes x.arch.dir x.arch.st b
  (p.2, x.onArch (Arch.setSt p.1))

/-- `AbsorbMsgBlock(b)` (R67). -/
def absorbMsgBlock (C : Cfg) (b : List Byte) (x : Work) : List Byte × Work :=
  let p := duplex b (permuteIfPending C .msgInt .msgInt x)
  (p.1, p.2.onArch (Arch.setPending true))

/-- The final-block part of `CloseMsg` (R68): its output bytes, the working state and the mask of case A, B or C. -/
def closeMsgBlock (C : Cfg) (res : List Byte) (x : Work) : List Byte × Work × Mask :=
  if x.arch.pending = false ∧ res = [] then ([], xorState 0 [C.padMarker] x, .emptyMsg)
  else if res ≠ [] ∨ C.fullPolicy = .extraBlock then
    let p := duplex res (permuteIfPending C .msgInt .msgInt x)
    (p.1, xorState res.length [C.padMarker] p.2, .msgLast)
  else ([], x, .msgLastFull)

/-- `CloseMsg(res)` (R68). -/
def closeMsg (C : Cfg) (res : List Byte) (x : Work) : List Byte × Work :=
  let y := closeMsgBlock C res x
  (y.1, (permuteAt C .msgLast y.2.2 y.2.1).onArch (Arch.setPending false))

/-- The key re-injection of `DeriveTag` at one of its two points (R12, R69). -/
def injectKey (C : Cfg) (point : KeyInject) (x : Work) : Work :=
  if C.keyInject = point then xorState C.keyOffset x.arch.key x else x

/-- `DeriveTag()` (R69): the tag, and the working state. -/
def deriveTag (C : Cfg) (x : Work) : List Byte × Work :=
  let y := injectKey C .after (permutePlain C .fin (injectKey C .before x))
  (slice y.arch.st C.tagOffset C.t, y)

/-- `DataBlocks(dir, B, L)` (R71). -/
def dataBlocks (C : Cfg) (dir : Bool) (B L : Nat) : Nat :=
  if dir then (B + L) / C.r
  else if C.t ≤ B + L then (B + L - C.t) / C.r else 0

end Sys2Proof.Machine
end

