-- ==== Sys2Proof/Machine/Aad.lean ====
section
/-! DEFINITION. The associated-data command AAD (42_aad R80). -/

namespace Sys2Proof.Machine

/-- `while |abuf| >= r` of R80, with the buffer's own length as fuel: a turn takes `r >= 1` bytes, so the fuel never ends
the loop early. -/
def drainAad (C : Cfg) : Nat → Work → Work
  | 0, x => x
  | fuel + 1, x =>
    if C.r ≤ x.arch.abuf.length then
      let y := x.onArch (Arch.setAbuf (x.arch.abuf.drop C.r))
      drainAad C fuel (absorbAadBlock C (x.arch.abuf.take C.r) y)
    else x

/-- `AAD(ILEN)` (R80). -/
def aadRule (C : Cfg) (ilen : Nat) (x : Work) : Work :=
  let A := inTake ilen x
  if A.2.arch.phase = .uninitialized then raise .notInitialized A.2
  else if A.2.arch.phase = .processing ∨ A.2.arch.phase = .finalized then raise .protocolSequenceError A.2
  else
    let y := A.2.onArch (Arch.setAbuf (A.2.arch.abuf ++ A.1))
    finish ((drainAad C y.arch.abuf.length y).onArch (Arch.setPhase .absorbingAad))

/-- AAD (R80). -/
def execAad (ilen : Nat) (s : State) : Host.Outcome State Fault Refusal := runCommand ilen (aadRule s.cfg ilen) s

end Sys2Proof.Machine
end

