-- ==== Sys2Proof/Machine/Data.lean ====
section
/-! DEFINITION. The message command DATA (43_data R81). -/

namespace Sys2Proof.Machine

/-- `repeat nb times` of R81: take a block from `dbuf`, absorb it, emit its output. -/
def drainMsg (C : Cfg) : Nat → Work → Work
  | 0, x => x
  | nb + 1, x =>
    let y := x.onArch (Arch.setDbuf (x.arch.dbuf.drop C.r))
    let p := absorbMsgBlock C (x.arch.dbuf.take C.r) y
    drainMsg C nb (outEmit p.1 p.2)

/-- `if phase in {INITIALIZED, ABSORBING_AAD}: CloseAad()` (R81, R82, R83). -/
def closeAadIfOpen (C : Cfg) (x : Work) : Work :=
  if x.arch.phase = .initialized ∨ x.arch.phase = .absorbingAad then closeAad C x else x

/-- `DATA(ILEN, OCAP)` (R81). -/
def dataRule (C : Cfg) (ilen ocap : Nat) (x : Work) : Work :=
  let D := inTake ilen x
  let a := D.2.arch
  if a.phase = .uninitialized then raise .notInitialized D.2
  else if a.phase = .finalized then raise .protocolSequenceError D.2
  else
    let nb := dataBlocks C a.dir a.dbuf.length ilen
    if ocap < C.r * nb then raise .bufferTooShort D.2
    else
      let y := (closeAadIfOpen C D.2).onArch (Arch.setPhase .processing)
      finish (drainMsg C nb (y.onArch (Arch.setDbuf (y.arch.dbuf ++ D.1))))

/-- DATA (R81). -/
def execData (ilen ocap : Nat) (s : State) : Host.Outcome State Fault Refusal :=
  runCommand ilen (dataRule s.cfg ilen ocap) s

end Sys2Proof.Machine
end

