-- ==== Sys2Proof/Machine/Final.lean ====
section
/-! DEFINITION. The finalization command FINAL (44_finalize): encrypting (R82) and decrypting (R83). -/

namespace Sys2Proof.Machine

/-- `FINAL_ENC(OCAP)` (R82). -/
def finalEncRule (C : Cfg) (ocap : Nat) (x : Work) : Work :=
  if x.arch.phase = .uninitialized then raise .notInitialized x
  else if x.arch.phase = .finalized then raise .protocolSequenceError x
  else if ocap < x.arch.dbuf.length + C.t then raise .bufferTooShort x
  else
    let y := closeAadIfOpen C x
    let c := closeMsg C y.arch.dbuf y
    let d := deriveTag C (c.2.onArch (Arch.setDbuf []))
    let z := d.2.onArch fun a => (a.setTag (some d.1)).setPhase .finalized
    finish (outEmit (c.1 ++ d.1) z)

/-- `FINAL_DEC(OCAP)` (R83). -/
def finalDecRule (C : Cfg) (ocap : Nat) (x : Work) : Work :=
  let B := x.arch.dbuf.length
  if x.arch.phase = .uninitialized then raise .notInitialized x
  else if x.arch.phase = .finalized then raise .protocolSequenceError x
  else if B < C.t then
    raise .authenticationFailure
      (x.onArch fun a => ((((a.setAbuf []).setDbuf []).setPending false).setTag none).setPhase .finalized)
  else if ocap < B - C.t then raise .bufferTooShort x
  else
    let y := closeAadIfOpen C x
    let p := closeMsg C (y.arch.dbuf.take (B - C.t)) y
    let received := y.arch.dbuf.drop (B - C.t)
    let d := deriveTag C (p.2.onArch (Arch.setDbuf []))
    let z := d.2.onArch fun a => (a.setTag (some d.1)).setPhase .finalized
    if tagEqual d.1 received then finish (outEmit p.1 z) else raise .authenticationFailure z

/-- `FINAL(OCAP)`: one encoding, R82 when `dir = 1` and R83 when `dir = 0`. -/
def finalRule (C : Cfg) (ocap : Nat) (x : Work) : Work :=
  if x.arch.dir then finalEncRule C ocap x else finalDecRule C ocap x

/-- FINAL (R82, R83). -/
def execFinal (ocap : Nat) (s : State) : Host.Outcome State Fault Refusal := runCommand 0 (finalRule s.cfg ocap) s

end Sys2Proof.Machine
end

