-- ==== Sys2Proof/Machine/Session.lean ====
section
/-! DEFINITION. The session commands (41_session): INIT.ENC and INIT.DEC (R77), RESET (R78), CLEAR (R79). -/

namespace Sys2Proof.Machine

/-- `INIT(DIR, KLEN, NLEN)` (R77). -/
def initRule (C : Cfg) (dir : Bool) (klen nlen : Nat) (x : Work) : Work :=
  let K := inTake klen x
  let N := inTake nlen K.2
  let z := zeroise C N.2
  if klen ≠ C.k then raise .invalidKeyLength z
  else if nlen ≠ C.n then raise .invalidNonceLength z
  else
    finish ((initState C (z.onArch (Arch.setSession K.1 N.1 dir))).onArch (Arch.setPhase .initialized))

/-- `RESET()` (R78). -/
def resetRule (C : Cfg) (x : Work) : Work :=
  if x.arch.phase = .uninitialized then raise .notInitialized x
  else
    let y := x.onArch fun a => (((a.setAbuf []).setDbuf []).setTag none).setPending false
    finish ((initState C y).onArch (Arch.setPhase .initialized))

/-- `CLEAR()` (R79). -/
def clearRule (C : Cfg) (x : Work) : Work := finish (zeroise C x)

/-- INIT.ENC (R77 with DIR = 1). -/
def execInitEnc (klen nlen : Nat) (s : State) : Host.Outcome State Fault Refusal :=
  runCommand (klen + nlen) (initRule s.cfg true klen nlen) s

/-- INIT.DEC (R77 with DIR = 0). -/
def execInitDec (klen nlen : Nat) (s : State) : Host.Outcome State Fault Refusal :=
  runCommand (klen + nlen) (initRule s.cfg false klen nlen) s

/-- RESET (R78). -/
def execReset (s : State) : Host.Outcome State Fault Refusal := runCommand 0 (resetRule s.cfg) s

/-- CLEAR (R79). -/
def execClear (s : State) : Host.Outcome State Fault Refusal := runCommand 0 (clearRule s.cfg) s

end Sys2Proof.Machine
end

