-- ==== Sys2Proof/Syntax.lean ====
section
/-! DEFINITION. The seven commands of spec/opcode_table.json, one constructor per row, with the fields of the command
word they use (30_encoding R51 to R53). A field is its unsigned number (R51); WellFormed.lean says which numbers fit. -/

namespace Sys2Proof

/-- The command set (R53). -/
inductive Instr
  /-- `INIT.ENC`: start an encrypting session (R77). -/
  | initEnc (klen nlen : Nat)
  /-- `INIT.DEC`: start a decrypting session (R77). -/
  | initDec (klen nlen : Nat)
  /-- `AAD`: append associated data (R80). -/
  | aad (ilen : Nat)
  /-- `DATA`: append message bytes (R81). -/
  | data (ilen ocap : Nat)
  /-- `FINAL`: close the session, derive and (decrypting) verify the tag (R82, R83). -/
  | final (ocap : Nat)
  /-- `RESET`: restart the session with the retained key, nonce and direction (R78). -/
  | reset
  /-- `CLEAR`: zeroise every secret (R79). -/
  | clear
deriving DecidableEq, Repr

end Sys2Proof
end

