-- ==== Sys2Proof/Machine/Dispatch.lean ====
section
/-! DEFINITION. One arm per command, one direct call of its meaning (spec/opcode_table.json). -/

namespace Sys2Proof.Machine

def exec (i : Instr) (s : State) : Host.Outcome State Fault Refusal :=
  match i with
  | .initEnc klen nlen => Sys2Proof.Machine.execInitEnc klen nlen s
  | .initDec klen nlen => Sys2Proof.Machine.execInitDec klen nlen s
  | .aad ilen => Sys2Proof.Machine.execAad ilen s
  | .data ilen ocap => Sys2Proof.Machine.execData ilen ocap s
  | .final ocap => Sys2Proof.Machine.execFinal ocap s
  | .reset => Sys2Proof.Machine.execReset s
  | .clear => Sys2Proof.Machine.execClear s

end Sys2Proof.Machine
end

