-- ==== Sys2Proof/WellFormed.lean ====
section
/-! DEFINITION. Well-formed commands: every field fits the bits R51 gives it. -/

namespace Sys2Proof

/-- Every field fits its bits: KLEN and NLEN 8 bits, ILEN and OCAP 16 bits (30_encoding R51). -/
def Instr.wellFormed : Instr → Bool
  | .initEnc klen nlen => decide (klen < 256) && decide (nlen < 256)
  | .initDec klen nlen => decide (klen < 256) && decide (nlen < 256)
  | .aad ilen => decide (ilen < 65536)
  | .data ilen ocap => decide (ilen < 65536) && decide (ocap < 65536)
  | .final ocap => decide (ocap < 65536)
  | .reset => true
  | .clear => true

end Sys2Proof
end

