-- ==== Sys2Proof/Decode.lean ====
section
/-! DEFINITION. Decoding of command words, total on all 2^64 words (30_encoding R54), and the encoder written from the
same field table (R51, R53). A word that is no command is refused by the name of the first check of R54 it fails. -/

namespace Sys2Proof

/-- Why a word is ILLEGAL (R54, R56), in the order R54 checks. -/
inductive Illegal
  /-- `op` is 0x0 or 0x7 to 0xF. -/
  | reservedOpcode
  /-- RSV0 (bits 15:5) or RSV1 (bits 63:48) is not zero. -/
  | reservedBits
  /-- DIR (bit 4) is set in a command that reserves it. -/
  | dirBit
  /-- A length or capacity field the command reserves is not zero. -/
  | reservedField
deriving DecidableEq, Repr

/-- `w[hi:lo]`, read as an unsigned number (00_scope R14). -/
def field (w : CmdWord) (hi lo : Nat) : Nat := (w.extractLsb hi lo).toNat

/-- `decode(word)` (R54). -/
def decode (w : CmdWord) : Except Illegal Instr :=
  let op := field w 3 0
  if op = 0 ∨ 6 < op then .error .reservedOpcode
  else if field w 15 5 ≠ 0 ∨ field w 63 48 ≠ 0 then .error .reservedBits
  else if op = 1 then
    if field w 47 32 ≠ 0 then .error .reservedField
    else if field w 4 4 = 1 then .ok (.initEnc (field w 23 16) (field w 31 24))
    else .ok (.initDec (field w 23 16) (field w 31 24))
  else if field w 4 4 ≠ 0 then .error .dirBit
  else if op = 2 then
    if field w 47 32 ≠ 0 then .error .reservedField else .ok (.aad (field w 31 16))
  else if op = 3 then .ok (.data (field w 31 16) (field w 47 32))
  else if op = 4 then
    if field w 31 16 ≠ 0 then .error .reservedField else .ok (.final (field w 47 32))
  else if field w 47 16 ≠ 0 then .error .reservedField
  else if op = 5 then .ok .reset
  else .ok .clear

/-- The word of a command: each field at the bits R51 gives it, every other bit 0 (R52, R53). The spec
gives a command that is not well formed no word: there the numbers are added at their places as they are, a number too large
for its field spills into the fields above it, and what passes bit 63 is lost. DESIGN CHOICE [log 19]. -/
def encode (i : Instr) : CmdWord :=
  BitVec.ofNat 64 <|
    match i with
    | .initEnc klen nlen => 0x1 + 2 ^ 4 + klen * 2 ^ 16 + nlen * 2 ^ 24
    | .initDec klen nlen => 0x1 + klen * 2 ^ 16 + nlen * 2 ^ 24
    | .aad ilen => 0x2 + ilen * 2 ^ 16
    | .data ilen ocap => 0x3 + ilen * 2 ^ 16 + ocap * 2 ^ 32
    | .final ocap => 0x4 + ocap * 2 ^ 32
    | .reset => 0x5
    | .clear => 0x6

/-- The instruction the decoder reads from the table's numbering of a word: the command port carries one 64-bit value
(R40), bit 0 its least significant bit; the bits from `nbits` up are 0. -/
def decodeTableWord (nbits w : Nat) : Option Instr :=
  match decode (BitVec.ofNat 64 (w % 2 ^ nbits)) with
  | .ok i => some i
  | .error _ => none

end Sys2Proof
end

