-- ==== Sys2Proof/Machine/Operands.lean ====
section
/-! DEFINITION. Operand lengths (30_encoding R55) and where the next command word comes from (R44, R50). The engine has no
addressing mode: an operand is the next bytes of the input stream. -/

namespace Sys2Proof

/-- `oplen` of a legal command (R55). -/
def Instr.oplen : Instr → Nat
  | .initEnc klen nlen => klen + nlen
  | .initDec klen nlen => klen + nlen
  | .aad ilen => ilen
  | .data ilen _ => ilen
  | .final _ => 0
  | .reset => 0
  | .clear => 0

/-- `oplen(word)` (R55): 0 for an ILLEGAL word. -/
def wordOplen (w : CmdWord) : Nat :=
  match decode w with
  | .ok i => i.oplen
  | .error _ => 0

namespace Machine

/-- The command word to run next, and the state in which it runs: the word in flight with the operand bytes it has already
taken put back in front, else the next word the host presents (R44, R50) [log 7]. None if the host presents none, or if
the command in flight has already executed. -/
def nextWord (s : State) : Option (CmdWord × State) :=
  match s.flight with
  | .idle =>
    match s.cmdq with
    | [] => none
    | w :: ws => some (w, { s with cmdq := ws })
  | .operand w taken => some (w, { s with din := taken ++ s.din, flight := .idle })
  | .output _ _ => none

end Machine

end Sys2Proof
end

