-- ==== Sys2Proof/Machine/Step.lean ====
section
/-! DEFINITION. One step: one whole command (70_reset R98), from the word the host presents to its completion. -/

namespace Sys2Proof.Machine

/-- One step (R98). While `rst_n` is 0 the engine is reset (R94). A command in flight is finished (R50). Otherwise the next
command word is accepted, decoded (R54) and run; an ILLEGAL word completes with `IllegalCommand`. With no word presented the
engine waits: the run has no halt state (R98) [log 5]. -/
def step (s : State) : Host.Outcome State Fault Refusal :=
  if s.rstN = false then .next s.hwReset
  else
    match s.flight with
    | .output left after => deliver after left s
    | .idle | .operand _ _ =>
      match nextWord s with
      | none => .next s
      | some (w, s') =>
        match decode w with
        | .ok i => exec i s'
        | .error _ => completeIllegal s'

/-- `s` with the word `w` presented first on the command port and an operand of zero bytes presented for it, the engine
idle and out of reset, so that the next step runs exactly it [log 4]. -/
def State.withFetchWord (s : State) (nbits w : Nat) : State :=
  let word : CmdWord := BitVec.ofNat 64 (w % 2 ^ nbits)
  { s with
    rstN := true, busy := false, flight := .idle
    cmdq := word :: s.cmdq, din := List.replicate (wordOplen word) 0 ++ s.din }

end Sys2Proof.Machine
end

