-- ==== Sys2Proof/Machine/Asm.lean ====
section
/-! DEFINITION. The assembler syntax and the pseudo-commands of 30_encoding section 4: what a host writes, the text of it,
the word and operand bytes it assembles to (R58), the expansion of ENCRYPT and DECRYPT (R59), and the presentation of a
program on the ports. -/

namespace Sys2Proof

/-- One line of R58. An omitted `ocap=` means 65535. -/
inductive Asm
  | initEnc (key nonce : List Byte)
  | initDec (key nonce : List Byte)
  | aad (bytes : List Byte)
  | data (bytes : List Byte) (ocap : Option Nat)
  | final (ocap : Option Nat)
  | reset
  | clear
  /-- `.word`: any word, with no operand bytes. -/
  | word (w : CmdWord)
deriving DecidableEq, Repr

/-- One hex digit, upper case as in the examples of R58 and 95_test_vectors. DEDUCED [log 20]. -/
def hexDigit (d : Nat) : String := String.ofList ((("0123456789ABCDEF".toList).drop (d % 16)).take 1)

/-- `m` hex digits of a number, most significant first. -/
def hexDigits : Nat → Nat → String
  | 0, _ => ""
  | m + 1, v => hexDigits m (v / 16) ++ hexDigit v

/-- `x"..."`: two hex digits per byte, first byte leftmost (R58). -/
def hexBytes (l : List Byte) : String := "x\"" ++ String.join (l.map fun b => hexDigits 2 b.toNat) ++ "\""

/-- `, ocap=M` or nothing (R58), `M` in decimal as in R58's `ocap=65535`. DEDUCED [log 20]. -/
def ocapText (lead : String) : Option Nat → String
  | none => ""
  | some m => lead ++ "ocap=" ++ toString m

/-- The text of a line (R58). -/
def Asm.text : Asm → String
  | .initEnc key nonce => "INIT.ENC key=" ++ hexBytes key ++ ", nonce=" ++ hexBytes nonce
  | .initDec key nonce => "INIT.DEC key=" ++ hexBytes key ++ ", nonce=" ++ hexBytes nonce
  | .aad bytes => "AAD " ++ hexBytes bytes
  | .data bytes ocap => "DATA " ++ hexBytes bytes ++ ocapText ", " ocap
  | .final ocap => "FINAL" ++ ocapText " " ocap
  | .reset => "RESET"
  | .clear => "CLEAR"
  | .word w => ".word 0x" ++ hexDigits 16 w.toNat

/-- The command word a line assembles to (R58). For a line whose operand does not fit its field (a key or nonce over 255
bytes, a literal over 65535 bytes, an `ocap` over 65535) R58 gives no word; the model answers `encode`'s, whose length spills
into the neighbouring fields. DESIGN CHOICE [log 19]. -/
def Asm.assemble : Asm → CmdWord
  | .initEnc key nonce => encode (.initEnc key.length nonce.length)
  | .initDec key nonce => encode (.initDec key.length nonce.length)
  | .aad bytes => encode (.aad bytes.length)
  | .data bytes ocap => encode (.data bytes.length (ocap.getD 65535))
  | .final ocap => encode (.final (ocap.getD 65535))
  | .reset => encode .reset
  | .clear => encode .clear
  | .word w => w

/-- The operand bytes a line supplies (R58). -/
def Asm.operand : Asm → List Byte
  | .initEnc key nonce => key ++ nonce
  | .initDec key nonce => key ++ nonce
  | .aad bytes => bytes
  | .data bytes _ => bytes
  | .final _ => []
  | .reset => []
  | .clear => []
  | .word _ => []

/-- The longest piece a split operand is cut into. R59 asks for at most 65535 bytes; a DATA command with all of 65535 bytes
on top of a buffered residue could need more output than the largest OCAP, so the model cuts at 65280 = 65535 - 255
(DESIGN CHOICE, R59 leaves the cut open) [log 15]. -/
def pieceLength : Nat := 65280

/-- An operand cut into pieces of `pieceLength` bytes, the last one no longer; `fuel` bounds the number of cuts. -/
def splitOperand : Nat → List Byte → List (List Byte)
  | 0, l => [l]
  | fuel + 1, l =>
    if l.length ≤ pieceLength then [l] else l.take pieceLength :: splitOperand fuel (l.drop pieceLength)

/-- The pieces of an operand: itself if 65535 bytes hold it (R59). -/
def operandPieces (l : List Byte) : List (List Byte) :=
  if l.length ≤ 65535 then [l] else splitOperand l.length l

/-- `AAD A`, omitted when `A` is empty (R59). -/
def aadLines (A : List Byte) : List Asm := if A = [] then [] else (operandPieces A).map .aad

/-- `ENCRYPT key=K, nonce=N, aad=A, msg=P` (R59). -/
def encryptLines (K N A P : List Byte) : List Asm :=
  [.initEnc K N] ++ aadLines A ++ (if P = [] then [] else (operandPieces P).map (.data · none)) ++ [.final none]

/-- `DECRYPT key=K, nonce=N, aad=A, ct=C` (R59). -/
def decryptLines (K N A C : List Byte) : List Asm :=
  [.initDec K N] ++ aadLines A ++ (operandPieces C).map (.data · none) ++ [.final none]

/-- The host presents a program on the ports: every word on `cmd`, every operand byte on `din`, in order (R38, R44)
[log 4]. -/
def Machine.State.present (program : List Asm) (s : Machine.State) : Machine.State :=
  { s with
    cmdq := s.cmdq ++ program.map Asm.assemble
    din := s.din ++ program.flatMap Asm.operand }

end Sys2Proof
end

