-- ==== Sys2Proof/Machine/Flags.lean ====
section
/-! DEFINITION. The host-readable registers (10_state R29 to R32): STATUS, PARAM0, PARAM1 and the reserved read select. The
engine has no condition flags besides STATUS (41_session R76). -/

namespace Sys2Proof

/-- The 3-bit code of a phase in STATUS.PHASE (R26). -/
def Phase.code : Phase → BitVec 3
  | .uninitialized => 0
  | .initialized => 1
  | .absorbingAad => 2
  | .processing => 3
  | .finalized => 4

namespace Machine

/-- The 4-bit code of a result in STATUS.ERR (60_exceptions R86). -/
def ResultCode.code : ResultCode → BitVec 4
  | .ok => 0
  | .invalidKeyLength => 1
  | .invalidNonceLength => 2
  | .protocolSequenceError => 3
  | .notInitialized => 4
  | .bufferTooShort => 5
  | .authenticationFailure => 6
  | .illegalCommand => 7

/-- STATUS (R29): OLEN [31:16], reserved [15:12], ERR [11:8], reserved [7:5], BUSY [4], DIR [3], PHASE [2:0]. -/
def statusWord (s : State) : RegWord :=
  s.arch.olen ++ 0#4 ++ s.arch.err.code ++ 0#3 ++ BitVec.ofBool s.busy ++ BitVec.ofBool s.arch.dir ++ s.arch.phase.code

/-- PARAM0 (R30): k [31:24], t [23:16], S [15:8], r [7:0]. -/
def param0 (C : Cfg) : RegWord :=
  BitVec.ofNat 8 C.k ++ BitVec.ofNat 8 C.t ++ BitVec.ofNat 8 C.S ++ BitVec.ofNat 8 C.r

/-- PARAM1 (R31): VARIANT_ID [31:24], reserved [23:11], PER_BLOCK_DS [10], KEY_INJECT [9], FULL_POLICY [8], n [7:0]. -/
def param1 (C : Cfg) : RegWord :=
  C.variantId ++ 0#13 ++ BitVec.ofBool C.perBlockDs ++ BitVec.ofBool (C.keyInject == .after) ++
    BitVec.ofBool (C.fullPolicy == .flipDs) ++ BitVec.ofNat 8 C.n

/-- The read port (30_encoding R48): `rdata` for a read select. Select 3 is reserved and reads 0 (R32) [log 13]. A
function of the state: a read changes nothing (20_memory R43). -/
def readPort (s : State) (rsel : BitVec 2) : RegWord :=
  if rsel = 0 then statusWord s
  else if rsel = 1 then param0 s.cfg
  else if rsel = 2 then param1 s.cfg
  else 0

end Machine

end Sys2Proof
end

