-- ==== Sys2Proof/Machine/Rules.lean ====
section
/-! DEFINITION. The command rule a decoded word names (30_encoding R53), for the port-level lifecycle and for what R99 says
of the permutation calls. -/

namespace Sys2Proof

/-- The rule of a command (R53). -/
def Instr.rule (C : Cfg) : Instr → Machine.Work → Machine.Work
  | .initEnc klen nlen => Machine.initRule C true klen nlen
  | .initDec klen nlen => Machine.initRule C false klen nlen
  | .aad ilen => Machine.aadRule C ilen
  | .data ilen ocap => Machine.dataRule C ilen ocap
  | .final ocap => Machine.finalRule C ocap
  | .reset => Machine.resetRule C
  | .clear => Machine.clearRule C

/-- The rule of a command word; an ILLEGAL word has its own (R54). -/
def wordRule (C : Cfg) (w : CmdWord) : Machine.Work → Machine.Work :=
  match decode w with
  | .ok i => i.rule C
  | .error _ => Machine.illegalRule

namespace Machine

/-- The permutation calls a command makes on a state with an operand, in order (R61, R99) [log 11]. -/
def commandCalls (C : Cfg) (i : Instr) (a : Arch) (operand : List Byte) : List PermCall :=
  (i.rule C (Work.start a operand)).calls

/-- The cycles the command word `w` takes on `s` (R98, R99; 92 D32) [log 10]. -/
def commandLatency (w : CmdWord) (s : State) : Nat := Config.latency s.cfg w s.arch.publicView

end Machine

end Sys2Proof
end

