-- ==== Sys2Proof/Machine/Ports.lean ====
section
/-! DEFINITION. The ports and the command lifecycle, one rising edge of `clk` at a time (30_encoding R48 to R50, 70_reset
R94): accept, operand, execute, output, complete. The host may stall any stream at any edge. The engine may stall in the execute
step alone: in the operand and output steps it is always ready (DESIGN CHOICE; R49 and R50 would let it stall there too)
[log 18]. The whole-command step of Machine/Step.lean forgets these edges (R98). -/

namespace Sys2Proof.Machine

/-- What is willing to move at one edge: the host's `cmd_valid`, `din_valid` and `dout_ready` (R48, R49), and whether the
engine's execution of the command ends at this edge (the number of cycles is not specified, R98). A host may withdraw a
`valid` before the transfer, which R49 forbids: more behaviours than the spec's, safe [log 18]. -/
structure Edge where
  /-- `cmd_valid`, if the host has a word left to present. -/
  cmdValid : Bool
  /-- `din_valid`, if the host has a byte left to present. -/
  dinValid : Bool
  /-- `dout_ready`, if the host still accepts a byte. -/
  doutReady : Bool
  /-- The execute step ends here. -/
  executes : Bool
deriving DecidableEq, Repr

/-- `cmd_ready`: `NOT busy` (R48), 0 during reset (R94). -/
def cmdReady (s : State) : Bool := s.rstN && !s.busy

/-- `din_ready`: 1 only while a command takes its operand (R48, R50), 0 during reset (R94). That it is 1 on EVERY edge of an
unfinished operand step is the model's: a receiver may hold `ready` at 0 (R49). DESIGN CHOICE [log 18]. -/
def dinReady (s : State) : Bool :=
  s.rstN &&
    match s.flight with
    | .idle => false
    | .operand w taken => decide (taken.length < wordOplen w)
    | .output _ _ => false

/-- `dout_valid`: the engine presents an output byte (R48), 0 during reset (R94). That it is 1 on EVERY edge of the output
step is the model's: the spec does not say when in that step each byte is presented (R49, R50). DESIGN CHOICE [log 18]. -/
def doutValid (s : State) : Bool :=
  s.rstN &&
    match s.flight with
    | .idle => false
    | .operand _ _ => false
    | .output left _ => !left.isEmpty

/-- `dout_data`: the byte presented, if any (R48). -/
def doutData (s : State) : Option Byte :=
  match s.flight with
  | .idle => none
  | .operand _ _ => none
  | .output left _ => left.head?

/-- The `busy` port equals STATUS.BUSY (R48). -/
def busyPort (s : State) : Bool := s.busy

/-- R50 step 1: a command word transfers. -/
def acceptEdge (valid : Bool) (s : State) : State :=
  match s.cmdq with
  | [] => s
  | w :: ws => if valid then { s with cmdq := ws, busy := true, flight := .operand w [] } else s

/-- R50 step 3: one operand byte transfers (R43). -/
def operandEdge (valid : Bool) (w : CmdWord) (taken : List Byte) (s : State) : State :=
  match s.din with
  | [] => s
  | b :: bs => if valid then { s with din := bs, flight := .operand w (taken ++ [b]) } else s

/-- R50 step 4: the rule has run on the whole operand. With no output step 5 is skipped. STATUS keeps the values from before
the command until it completes (R29). -/
def executeEdge (w : CmdWord) (taken : List Byte) (s : State) : State :=
  let x := wordRule s.cfg w (Work.start s.arch taken)
  if x.out = [] then s.complete x.arch [] else { s with flight := .output x.out x.arch }

/-- R50 steps 5 and 6: one output byte transfers; with the last one the command completes. -/
def outputEdge (ready : Bool) (left : List Byte) (after : Arch) (s : State) : State :=
  match left with
  | [] => s.complete after []
  | b :: bs =>
    if ready && accepts s.room 1 then
      if bs = [] then s.complete after [b]
      else { s with dout := s.dout ++ [b], room := s.room.map (· - 1), flight := .output bs after }
    else s

/-- One rising edge of `clk`. -/
def clockEdge (e : Edge) (s : State) : State :=
  if s.rstN = false then s.hwReset
  else
    match s.flight with
    | .idle => acceptEdge e.cmdValid s
    | .operand w taken =>
      if taken.length < wordOplen w then operandEdge e.dinValid w taken s
      else if e.executes then executeEdge w taken s
      else s
    | .output left after => outputEdge e.doutReady left after s

/-- A sequence of edges. -/
def clockEdges : List Edge → State → State
  | [], s => s
  | e :: es, s => clockEdges es (clockEdge e s)

end Sys2Proof.Machine
end

