-- ==== Sys2Proof/Safety.lean ====
section
/-! DEFINITION. What a good state and a safe step are: the state invariants of 10_state R24 and R33 with the widths of R22,
R23 and R28, the lifecycle's consistency (30_encoding R50), and the two host duties without which a command is stuck
(70_reset R96 duties 1 and 3). Then, for the claims: what the
procedures of 40_datapath leave in the state register and emit, as functions of byte lists over whole streams, written
without the commands' loops and working state. -/

namespace Sys2Proof.Machine

/-- The registers have their widths (R22, R23, R28). -/
abbrev Arch.Widths (C : Cfg) (a : Arch) : Prop :=
  a.st.length = C.S ∧ a.key.length = C.k ∧ a.nonce.length = C.n ∧ (∀ T ∈ a.tag, T.length = C.t)

/-- R24's bound on the message residue, for the direction. -/
abbrev Arch.DbufBound (C : Cfg) (a : Arch) : Prop :=
  if a.dir then a.dbuf.length ≤ C.r - 1 else a.dbuf.length ≤ C.r + C.t - 1

/-- The state invariants of R33, phase by phase. -/
abbrev Arch.PhaseInv (C : Cfg) (a : Arch) : Prop :=
  match a.phase with
  | .uninitialized =>
    a.st = zeroBytes C.S ∧ a.key = zeroBytes C.k ∧ a.nonce = zeroBytes C.n ∧ a.abuf = [] ∧ a.dbuf = [] ∧
      a.pending = false ∧ a.tag = none ∧ a.dir = false
  | .initialized => a.abuf = [] ∧ a.dbuf = [] ∧ a.pending = false ∧ a.tag = none
  | .absorbingAad => a.abuf.length ≤ C.r - 1 ∧ a.dbuf = [] ∧ a.tag = none
  | .processing => a.abuf = [] ∧ a.DbufBound C ∧ a.tag = none
  | .finalized => a.abuf = [] ∧ a.dbuf = [] ∧ a.pending = false

/-- The invariant of the architectural state (R22 to R28, R33). -/
abbrev Arch.Inv (C : Cfg) (a : Arch) : Prop := a.Widths C ∧ a.PhaseInv C

/-- The lifecycle is consistent (R29, R50): `busy` is 1 exactly while a command is in flight; the operand step holds no more
bytes than the command takes; the output step holds the good state it will commit, with at least one byte to emit. -/
abbrev State.FlightInv (s : State) : Prop :=
  match s.flight with
  | .idle => s.busy = false
  | .operand w taken => s.busy = true ∧ taken.length ≤ wordOplen w
  | .output left after => s.busy = true ∧ left ≠ [] ∧ after.Inv s.cfg

/-- The invariant of the machine. -/
def State.Inv (s : State) : Prop := s.arch.Inv s.cfg ∧ s.FlightInv

/-- The host presents the whole operand of the command (R96 duty 1). -/
abbrev State.Supplies (s : State) (need : Nat) : Prop := need ≤ s.din.length

/-- The host accepts every output byte (R96 duty 3). -/
abbrev State.AcceptsAll (s : State) : Prop := s.room = none

/-! ### What the streams come to -/

/-- The first `nb` blocks of `r` bytes of a stream (00_scope R18). -/
def blocksOf (r nb : Nat) (l : List Byte) : List (List Byte) := (List.range nb).map fun j => slice l (r * j) r

/-- `st` after a deferred interior permutation, if one is pending (R25, R60). -/
def deferred (C : Cfg) (site : Site) (m : Mask) (pending : Bool) (st : List Byte) : List Byte :=
  if pending then permuteBytes C site (xorAt 0 st (C.mask m).toList) else st

/-- `st` that key and nonce open a session with (R62). -/
def initialSt (C : Cfg) (key nonce : List Byte) : List Byte :=
  xorAt 0 (permuteBytes C .init (C.initLoad (Bytes.fit C.k key) (Bytes.fit C.n nonce)).toList)
    (C.initPost (Bytes.fit C.k key)).toList

/-- `st` and `pending` after a list of AAD blocks (R64). -/
def absorbedAad (C : Cfg) (st : List Byte) (pending : Bool) (bs : List (List Byte)) : List Byte × Bool :=
  bs.foldl (fun p b => (xorAt 0 (deferred C .aadInt .aadInt p.2 p.1) b, true)) (st, pending)

/-- `st` after the AAD stream closes on the residue `res` (R65). -/
def closedAadSt (C : Cfg) (st : List Byte) (pending : Bool) (res : List Byte) : List Byte :=
  if pending = false ∧ res = [] then
    permuteBytes C .aadLast (xorAt 0 (xorAt 0 st (pad C [])) C.dsNoAad.toList)
  else if res ≠ [] ∨ C.fullPolicy = .extraBlock then
    permuteBytes C .aadLast
      (xorAt 0 (xorAt 0 (deferred C .aadInt .aadInt pending st) (pad C res)) C.dsAadLast.toList)
  else permuteBytes C .aadLast (xorAt 0 st C.dsAadLastFull.toList)

/-- Whether the AAD stream is still open: the phases in which DATA and FINAL close it (R81 to R83). -/
def Arch.aadOpen (a : Arch) : Bool := a.phase == .initialized || a.phase == .absorbingAad

/-- `st` and `pending` as the message stream finds them (R65, R81). -/
def messageStart (C : Cfg) (a : Arch) : List Byte × Bool :=
  if a.aadOpen then (closedAadSt C a.st a.pending a.abuf, false) else (a.st, a.pending)

/-- `st`, `pending` and the output after a list of message blocks (R66, R67). -/
def absorbedMsg (C : Cfg) (dir : Bool) (start : List Byte × Bool) (bs : List (List Byte)) :
    List Byte × Bool × List Byte :=
  bs.foldl
    (fun p b =>
      let d := duplexBytes dir (deferred C .msgInt .msgInt p.2.1 p.1) b
      (d.1, true, p.2.2 ++ d.2))
    (start.1, start.2, [])

/-- `st` and the output after the message stream closes on the residue `res` (R68). -/
def closedMsg (C : Cfg) (dir : Bool) (start : List Byte × Bool) (res : List Byte) : List Byte × List Byte :=
  if start.2 = false ∧ res = [] then
    (permuteBytes C .msgLast (xorAt 0 (xorAt 0 start.1 [C.padMarker]) C.dsEmptyMsg.toList), [])
  else if res ≠ [] ∨ C.fullPolicy = .extraBlock then
    let d := duplexBytes dir (deferred C .msgInt .msgInt start.2 start.1) res
    (permuteBytes C .msgLast (xorAt 0 (xorAt res.length d.1 [C.padMarker]) C.dsMsgLast.toList), d.2)
  else (permuteBytes C .msgLast (xorAt 0 start.1 C.dsMsgLastFull.toList), [])

/-- `st` after the keyed finalization (R69). -/
def tagSt (C : Cfg) (key st : List Byte) : List Byte :=
  match C.keyInject with
  | .before => permuteBytes C .fin (xorAt C.keyOffset st key)
  | .after => xorAt C.keyOffset (permuteBytes C .fin st) key

/-- The tag extracted from it (R69). -/
def tagOf (C : Cfg) (key st : List Byte) : List Byte := slice (tagSt C key st) C.tagOffset C.t

/-- A state's command completed: `din`, output and registers as given, the lifecycle idle (R50 step 6). -/
def State.done (s : State) (need : Nat) (a : Arch) (out : List Byte) : State :=
  { s with
    arch := a, busy := false, flight := .idle
    din := s.din.drop need, dout := s.dout ++ out, room := s.room.map (· - out.length) }

/-- Commands that the host feeds one after another, each with its operand on the input stream (R44). -/
def feed (mk : Nat → Instr) : List (List Byte) → State → Host.Outcome State Fault Refusal
  | [], s => .next s
  | c :: cs, s =>
    match exec (mk c.length) { s with din := c } with
    | .next t => if t.arch.err = .ok then feed mk cs t else .next t
    | .fault f => .fault f
    | .refused q => .refused q

end Sys2Proof.Machine
end

