-- ==== Sys2Proof/Certificates/Slice0/Obligations.lean ====
section
/-! DEFINITION. The statements about the PB-AEAD engine that are to be proved. Where nothing else is said a statement is about
every state, reachable or not, and about every configuration an instance can have; `State.Inv` is a statement of its own
(at reset, and kept by every step and every clock edge). -/

open Sys2Proof Sys2Proof.Machine

/-! ### Configuration -/

/-- R13: a configuration is admitted iff it passes every clause, and a refused one is refused with its broken clauses. -/
def Obligations.ConfigurationAdmittedIffWellFormed : Prop :=
  ∀ C : Cfg,
    ((∃ D : CheckedCfg, C.check = .ok D ∧ D.cfg = C) ↔
      (1 ≤ C.r ∧ C.r < C.S ∧ C.S ≤ 255) ∧
      (1 ≤ C.t ∧ C.t ≤ 255) ∧ (1 ≤ C.k ∧ C.k ≤ 255) ∧ (1 ≤ C.n ∧ C.n ≤ 255) ∧
      (C.keyOffset + C.k ≤ C.S ∧ C.tagOffset + C.t ≤ C.S) ∧
      C.padMarker ≠ 0 ∧
      (C.perBlockDs = false → C.dsAadInt.toList = zeroBytes C.S ∧ C.dsMsgInt.toList = zeroBytes C.S)) ∧
    (C.wellFormed = false → C.check = .error C.flaws ∧ C.flaws ≠ [])

/-- Every instance's configuration is well formed: the device's by construction, the two fixtures' by R13's check. -/
def Obligations.EveryInstanceIsWellFormed : Prop := ∀ v : Variant, v.cfg.wellFormed = true

/-! ### Decoding and encoding -/

/-- R54, R52: the words `decode` refuses are exactly those with a reserved OP or a non-zero bit in a reserved field. -/
def Obligations.IllegalWordsAreExactlyReserved : Prop :=
  ∀ w : CmdWord,
    (∃ e, decode w = .error e) ↔
      (field w 3 0 = 0 ∨ 7 ≤ field w 3 0) ∨ field w 15 5 ≠ 0 ∨ field w 63 48 ≠ 0 ∨
      (field w 3 0 ≠ 1 ∧ field w 4 4 ≠ 0) ∨
      ((field w 3 0 = 1 ∨ field w 3 0 = 2 ∨ field w 3 0 = 5 ∨ field w 3 0 = 6) ∧ field w 47 32 ≠ 0) ∨
      ((field w 3 0 = 4 ∨ field w 3 0 = 5 ∨ field w 3 0 = 6) ∧ field w 31 16 ≠ 0)

/-- opcode_table.json with R51: each row's mask and match select exactly the words that decode to the row's command, and each
operand is the field R51 gives it. -/
def Obligations.DecodeFollowsOpcodeTable : Prop :=
  ∀ (w : CmdWord) (a b : Nat),
    (decode w = .ok (.initEnc a b) ↔
      w &&& 0xFFFFFFFF0000FFFF = 0x0000000000000011 ∧ a = field w 23 16 ∧ b = field w 31 24) ∧
    (decode w = .ok (.initDec a b) ↔
      w &&& 0xFFFFFFFF0000FFFF = 0x0000000000000001 ∧ a = field w 23 16 ∧ b = field w 31 24) ∧
    (decode w = .ok (.aad a) ↔ w &&& 0xFFFFFFFF0000FFFF = 0x0000000000000002 ∧ a = field w 31 16) ∧
    (decode w = .ok (.data a b) ↔
      w &&& 0xFFFF00000000FFFF = 0x0000000000000003 ∧ a = field w 31 16 ∧ b = field w 47 32) ∧
    (decode w = .ok (.final a) ↔ w &&& 0xFFFF0000FFFFFFFF = 0x0000000000000004 ∧ a = field w 47 32) ∧
    (decode w = .ok .reset ↔ w = 0x0000000000000005) ∧
    (decode w = .ok .clear ↔ w = 0x0000000000000006)

/-- What decodes is well formed. -/
def Obligations.DecodedCommandIsWellFormed : Prop :=
  ∀ (w : CmdWord) (i : Instr), decode w = .ok i → i.wellFormed = true

/-- Decoding an encoded well-formed command gives it back, with every operand. -/
def Obligations.DecodeEncodeAgree : Prop :=
  ∀ i : Instr, i.wellFormed = true → decode (encode i) = .ok i

/-- Each legal word is the encoding of the command it decodes to: no bit of it is dropped. -/
def Obligations.EncodeDecodeAgree : Prop :=
  ∀ (w : CmdWord) (i : Instr), decode w = .ok i → encode i = w

/-- Eight words written out from R51's field table decode to the commands they stand for. All but the second
(INIT.DEC with KLEN 7 and NLEN 5) stand in 95_test_vectors. -/
def Obligations.SampleWordsDecode : Prop :=
  decode 0x0000000004080011 = .ok (.initEnc 8 4) ∧
  decode 0x0000000005070001 = .ok (.initDec 7 5) ∧
  decode 0x0000000000050002 = .ok (.aad 5) ∧
  decode 0x0000000300050003 = .ok (.data 5 3) ∧
  decode 0x0000FFFF00000004 = .ok (.final 65535) ∧
  decode 0x0000000000000005 = .ok .reset ∧
  decode 0x0000000000000006 = .ok .clear ∧
  decode 0x0000000000000016 = .error .dirBit

/-- R55: how many operand bytes a word takes, and that they are taken in full whatever the command's result. -/
def Obligations.OperandTakenInFull : Prop :=
  (∀ (w : CmdWord) (a b : Nat), decode w = .ok (.initEnc a b) ∨ decode w = .ok (.initDec a b) →
    wordOplen w = a + b) ∧
  (∀ (w : CmdWord) (a b : Nat), decode w = .ok (.aad a) ∨ decode w = .ok (.data a b) → wordOplen w = a) ∧
  (∀ (w : CmdWord) (a : Nat),
    decode w = .ok (.final a) ∨ decode w = .ok .reset ∨ decode w = .ok .clear → wordOplen w = 0) ∧
  (∀ (w : CmdWord) (e : Illegal), decode w = .error e → wordOplen w = 0) ∧
  (∀ (i : Instr) (s t : State), exec i s = .next t → t.din = s.din.drop i.oplen)

/-- R58: the word and the operand bytes of every line of assembly agree with what the engine decodes and takes. -/
def Obligations.AssembledLinesDecode : Prop :=
  (∀ K N : List Byte, K.length < 256 → N.length < 256 →
    decode (Asm.initEnc K N).assemble = .ok (.initEnc K.length N.length) ∧
    decode (Asm.initDec K N).assemble = .ok (.initDec K.length N.length) ∧
    (Asm.initEnc K N).operand = K ++ N ∧ (Asm.initDec K N).operand = K ++ N) ∧
  (∀ A : List Byte, A.length < 65536 →
    decode (Asm.aad A).assemble = .ok (.aad A.length) ∧ (Asm.aad A).operand = A) ∧
  (∀ (D : List Byte) (M : Nat), D.length < 65536 → M < 65536 →
    decode (Asm.data D (some M)).assemble = .ok (.data D.length M) ∧
    decode (Asm.data D none).assemble = .ok (.data D.length 65535) ∧
    (Asm.data D (some M)).operand = D ∧ (Asm.data D none).operand = D) ∧
  (decode Asm.reset.assemble = .ok .reset ∧ decode Asm.clear.assemble = .ok .clear ∧ Asm.reset.operand = [] ∧
    Asm.clear.operand = []) ∧
  (∀ M : Nat, M < 65536 →
    decode (Asm.final (some M)).assemble = .ok (.final M) ∧
    decode (Asm.final none).assemble = .ok (.final 65535) ∧ (Asm.final (some M)).operand = []) ∧
  (∀ w : CmdWord, (Asm.word w).assemble = w ∧ (Asm.word w).operand = [])

/-! ### Reset, registers, ports -/

/-- R35: every element after hardware reset, for the machine's reset state and that of every configuration. -/
def Obligations.ResetValues : Prop :=
  ∀ s : State, (s = State.reset ∨ ∃ v : Variant, s = State.resetOf v) →
    s.arch.phase = .uninitialized ∧ s.arch.dir = false ∧ s.arch.st = List.replicate s.cfg.S 0 ∧
    s.arch.key = List.replicate s.cfg.k 0 ∧ s.arch.nonce = List.replicate s.cfg.n 0 ∧
    s.arch.abuf = [] ∧ s.arch.dbuf = [] ∧ s.arch.pending = false ∧ s.arch.tag = none ∧
    s.arch.err = .ok ∧ s.arch.olen = 0 ∧ s.busy = false ∧
    readPort s 0 = 0 ∧ readPort s 1 = param0 s.cfg ∧ readPort s 2 = param1 s.cfg

/-- R94: on an edge with `rst_n` 0 every element takes its reset value, a command in flight is aborted and leaves nothing, nothing is
taken from or given to the host, the three handshake outputs are 0; released, the engine is ready for a word. That the host's
streams stay as they are, the output already delivered by the aborted command among them, is the model's choice [log 9]. -/
def Obligations.HardwareResetAborts : Prop :=
  ∀ (s : State) (e : Edge), s.rstN = false →
    let t : State := { s with arch := Arch.reset s.cfg, busy := false, flight := .idle }
    clockEdge e s = t ∧
    cmdReady s = false ∧ dinReady s = false ∧ doutValid s = false ∧
    cmdReady { t with rstN := true } = true ∧
    readPort t 0 = 0 ∧ readPort t 1 = readPort s 1 ∧ readPort t 2 = readPort s 2

/-- R29 and R26, R86: the fields of STATUS. -/
def Obligations.StatusLayout : Prop :=
  ∀ s : State,
    (readPort s 0).toNat =
      s.arch.phase.code.toNat + 2 ^ 3 * s.arch.dir.toNat + 2 ^ 4 * s.busy.toNat +
        2 ^ 8 * s.arch.err.code.toNat + 2 ^ 16 * s.arch.olen.toNat ∧
    [Phase.uninitialized, .initialized, .absorbingAad, .processing, .finalized].map (·.code.toNat) = [0, 1, 2, 3, 4] ∧
    [ResultCode.ok, .invalidKeyLength, .invalidNonceLength, .protocolSequenceError, .notInitialized, .bufferTooShort,
      .authenticationFailure, .illegalCommand].map (·.code.toNat) = [0, 1, 2, 3, 4, 5, 6, 7]

/-- R30 and R31: the fields of PARAM0 and PARAM1, and that no step changes them. -/
def Obligations.ParamRegisters : Prop :=
  ∀ s : State,
    (readPort s 1).toNat = s.cfg.r + 2 ^ 8 * s.cfg.S + 2 ^ 16 * s.cfg.t + 2 ^ 24 * s.cfg.k ∧
    (readPort s 2).toNat =
      s.cfg.n + 2 ^ 8 * (if s.cfg.fullPolicy = .flipDs then 1 else 0) +
        2 ^ 9 * (if s.cfg.keyInject = .after then 1 else 0) + 2 ^ 10 * s.cfg.perBlockDs.toNat +
        2 ^ 24 * s.cfg.variantId.toNat ∧
    ∀ t : State, step s = .next t → readPort t 1 = readPort s 1 ∧ readPort t 2 = readPort s 2

/-- R32, R34: the reserved select reads 0, and the read port tells nothing of `st`, `key`, `nonce`, the buffers, `pending`,
`tag` or the host's own streams. -/
def Obligations.ReadPortHidesSecrets : Prop :=
  ∀ s s' : State, s.variant = s'.variant → s.arch.phase = s'.arch.phase → s.arch.dir = s'.arch.dir →
    s.arch.err = s'.arch.err → s.arch.olen = s'.arch.olen → s.busy = s'.busy →
    (∀ rsel, readPort s rsel = readPort s' rsel) ∧ readPort s 3 = 0

/-- R29: ERR and OLEN are not sticky, a command's whole result is the same whatever they held before. -/
def Obligations.ResultNotSticky : Prop :=
  ∀ (i : Instr) (s : State) (e : ResultCode) (m : BitVec 16),
    exec i { s with arch := { s.arch with err := e, olen := m } } = exec i s

/-- R29, R50: while a command is in flight STATUS keeps PHASE, DIR, ERR and OLEN from before it. -/
def Obligations.StatusHeldWhileBusy : Prop :=
  ∀ (e : Edge) (s : State), s.rstN = true → s.Inv → (clockEdge e s).busy = true →
    readPort (clockEdge e s) 0 ||| 0x10 = readPort s 0 ||| 0x10

/-- R43, R48, R49: a stream moves only where both its sides are willing: no word while busy, no operand byte outside the
operand step, no output byte outside the output step, and at most one item an edge. When the engine is willing within the operand and
output steps is the model's choice [log 18]. -/
def Obligations.StreamsMoveOnHandshake : Prop :=
  ∀ (e : Edge) (s : State), s.rstN = true → s.Inv →
    ((clockEdge e s).cmdq = s.cmdq ∨
      (cmdReady s = true ∧ e.cmdValid = true ∧ ∃ w, s.cmdq = w :: (clockEdge e s).cmdq)) ∧
    ((clockEdge e s).din = s.din ∨
      (dinReady s = true ∧ e.dinValid = true ∧ ∃ b, s.din = b :: (clockEdge e s).din)) ∧
    ((clockEdge e s).dout = s.dout ∨
      (doutValid s = true ∧ e.doutReady = true ∧ ∃ b, doutData s = some b ∧ (clockEdge e s).dout = s.dout ++ [b]))

/-! ### Invariants -/

/-- The invariant holds at reset, for every instance. -/
def Obligations.InvariantAtReset : Prop := State.reset.Inv ∧ ∀ v : Variant, (State.resetOf v).Inv

/-- R33 with R22 to R24 and R28: every step keeps the invariant. -/
def Obligations.StepKeepsInvariant : Prop :=
  ∀ s t : State, s.Inv → step s = .next t → t.Inv

/-- So does every clock edge, whatever stalls (the host anywhere, the engine in its execute step) [log 18]. -/
def Obligations.ClockEdgeKeepsInvariant : Prop :=
  ∀ (e : Edge) (s : State), s.Inv → (clockEdge e s).Inv

/-- R62, R77, R78: in INITIALIZED the state register holds what key and nonce open a session with. -/
def Obligations.InitializedHoldsInitialState : Prop :=
  ∀ (i : Instr) (s t : State),
    (s.arch.phase = .initialized → s.arch.st = initialSt s.cfg s.arch.key s.arch.nonce) → exec i s = .next t →
    t.arch.phase = .initialized → t.arch.st = initialSt t.cfg t.arch.key t.arch.nonce

/-! ### Step, lifecycle, host duties -/

/-- A step runs the decoded command: a presented word, or the word in flight with the operand bytes it has taken. With
nothing presented the engine waits, with `rst_n` 0 it is reset (the model's choices, log 5 and 9). -/
def Obligations.StepRunsDecodedCommand : Prop :=
  (∀ (s : State) (w : CmdWord) (ws : List CmdWord) (i : Instr), s.rstN = true → s.flight = .idle → s.cmdq = w :: ws →
    decode w = .ok i → step s = exec i { s with cmdq := ws }) ∧
  (∀ (s : State) (w : CmdWord) (taken : List Byte) (i : Instr), s.rstN = true → s.flight = .operand w taken →
    decode w = .ok i → step s = exec i { s with din := taken ++ s.din, flight := .idle }) ∧
  (∀ s : State, s.rstN = true → s.flight = .idle → s.cmdq = [] → step s = .next s) ∧
  (∀ s : State, s.rstN = false →
    step s = .next { s with arch := Arch.reset s.cfg, busy := false, flight := .idle })

/-- R54, R87: an illegal word takes no operand byte, emits nothing and changes nothing but ERR and OLEN. -/
def Obligations.IllegalWordChangesOnlyStatus : Prop :=
  ∀ (s : State) (w : CmdWord) (ws : List CmdWord) (e : Illegal), s.rstN = true → s.flight = .idle →
    s.cmdq = w :: ws → decode w = .error e →
    step s =
      .next { s with arch := { s.arch with err := .illegalCommand, olen := 0 }, busy := false, cmdq := ws }

/-- R96, R98: a command is stuck in its operand step exactly if the host presents too few bytes, in its output step only if
the host bounds what it accepts and the command has output; under both duties it completes. -/
def Obligations.StuckOnlyByBrokenDuty : Prop :=
  ∀ (i : Instr) (s : State),
    (exec i s = .fault .operandStarved ↔ s.din.length < i.oplen) ∧
    (exec i s = .fault .outputBlocked →
      s.room ≠ none ∧ ((∃ a b, i = .data a b) ∨ ∃ a, i = .final a)) ∧
    (s.Supplies i.oplen → s.AcceptsAll → ∃ t, exec i s = .next t)

/-- R50, R36, R98: the port-level lifecycle refines the whole-command step. An edge that leaves a command in flight does not
change what the step will give, and the edge that completes it gives the step's state. -/
def Obligations.LifecycleRefinesStep : Prop :=
  ∀ (e : Edge) (s : State), s.rstN = true → s.Inv →
    ((clockEdge e s).flight ≠ .idle → step (clockEdge e s) = step s) ∧
    (s.flight ≠ .idle → (clockEdge e s).flight = .idle → step s = .next (clockEdge e s))

/-- R98's progress guarantee on the ports: a command that the step completes, completes on the ports, one edge for each byte
and two for its acceptance and its execution. The number of edges is the model's, whose engine never stalls in the operand and
output steps [log 8, 10, 18]. -/
def Obligations.LifecycleCompletes : Prop :=
  ∀ (s t : State) (w : CmdWord) (ws : List CmdWord), s.rstN = true → s.Inv → s.flight = .idle → s.cmdq = w :: ws →
    step s = .next t →
    ∃ es : List Edge, es.length = 2 + wordOplen w + (t.dout.length - s.dout.length) ∧ clockEdges es s = t

/-! ### Session commands -/

/-- R77: an INIT with the right lengths starts a session in the direction its word says. -/
def Obligations.InitStartsSession : Prop :=
  ∀ s : State, s.Supplies (s.cfg.k + s.cfg.n) →
    let K := s.din.take s.cfg.k
    let N := slice s.din s.cfg.k s.cfg.n
    let a (dir : Bool) : Arch :=
      { phase := .initialized, dir := dir, st := initialSt s.cfg K N, key := K, nonce := N, abuf := [], dbuf := [],
        pending := false, tag := none, err := .ok, olen := 0 }
    exec (.initEnc s.cfg.k s.cfg.n) s = .next (s.done (s.cfg.k + s.cfg.n) (a true) []) ∧
    exec (.initDec s.cfg.k s.cfg.n) s = .next (s.done (s.cfg.k + s.cfg.n) (a false) [])

/-- R77, R88: an INIT with a wrong length zeroises the engine and reports the key length first. -/
def Obligations.InitLengthErrorsZeroise : Prop :=
  ∀ (s : State) (klen nlen : Nat), s.Supplies (klen + nlen) → ¬(klen = s.cfg.k ∧ nlen = s.cfg.n) →
    let a : Arch :=
      { Arch.reset s.cfg with err := if klen = s.cfg.k then .invalidNonceLength else .invalidKeyLength }
    exec (.initEnc klen nlen) s = .next (s.done (klen + nlen) a []) ∧
    exec (.initDec klen nlen) s = .next (s.done (klen + nlen) a [])

/-- R78: RESET restarts the session from the retained key, nonce and direction; with no session it reports NotInitialized
and changes nothing else. -/
def Obligations.ResetRestartsSession : Prop :=
  (∀ w : CmdWord, decode w = .ok .reset ↔ w = 0x0000000000000005) ∧
  ∀ s : State,
    (s.arch.phase ≠ .uninitialized →
      exec .reset s =
        .next (s.done 0
          { s.arch with
            phase := .initialized, st := initialSt s.cfg s.arch.key s.arch.nonce, abuf := [], dbuf := [],
            pending := false, tag := none, err := .ok, olen := 0 } [])) ∧
    (s.arch.phase = .uninitialized →
      exec .reset s = .next (s.done 0 { s.arch with err := .notInitialized, olen := 0 } []))

/-- R79: CLEAR zeroises everything in every phase and leaves STATUS 0; after it every command but INIT and CLEAR reports
NotInitialized. -/
def Obligations.ClearZeroises : Prop :=
  (∀ w : CmdWord, decode w = .ok .clear ↔ w = 0x0000000000000006) ∧
  ∀ s : State,
    let t := s.done 0 (Arch.reset s.cfg) []
    exec .clear s = .next t ∧ readPort t 0 = 0 ∧
    ∀ i : Instr, (∀ a b, i ≠ .initEnc a b) → (∀ a b, i ≠ .initDec a b) → i ≠ .clear → t.Supplies i.oplen →
      exec i t = .next (t.done i.oplen { t.arch with err := .notInitialized } [])

/-! ### Stream commands -/

/-- R80: AAD appends its operand, absorbs every complete block with the permutation between blocks, and keeps the residue. -/
def Obligations.AadAbsorbsBlocks : Prop :=
  ∀ (s : State) (ilen : Nat), s.arch.aadOpen = true → s.Supplies ilen →
    let total := s.arch.abuf ++ s.din.take ilen
    let nb := total.length / s.cfg.r
    let p := absorbedAad s.cfg s.arch.st s.arch.pending (blocksOf s.cfg.r nb total)
    exec (.aad ilen) s =
      .next (s.done ilen
        { s.arch with
          phase := .absorbingAad, st := p.1, pending := p.2, abuf := total.drop (s.cfg.r * nb), err := .ok, olen := 0 } [])

/-- R81: DATA closes the AAD stream if it is open, then transforms and emits every block that may be drained. -/
def Obligations.DataTransformsBlocks : Prop :=
  ∀ (s : State) (ilen ocap : Nat), s.arch.aadOpen = true ∨ s.arch.phase = .processing → s.Supplies ilen →
    let nb := dataBlocks s.cfg s.arch.dir s.arch.dbuf.length ilen
    s.cfg.r * nb ≤ ocap → accepts s.room (s.cfg.r * nb) = true →
    let total := s.arch.dbuf ++ s.din.take ilen
    let p := absorbedMsg s.cfg s.arch.dir (messageStart s.cfg s.arch) (blocksOf s.cfg.r nb total)
    exec (.data ilen ocap) s =
      .next (s.done ilen
        { s.arch with
          phase := .processing, st := p.1, pending := p.2.1, abuf := if s.arch.aadOpen then [] else s.arch.abuf
          dbuf := total.drop (s.cfg.r * nb), err := .ok, olen := BitVec.ofNat 16 p.2.2.length } p.2.2)

/-- R82: FINAL when encrypting closes both streams and emits the last ciphertext bytes, then the tag. -/
def Obligations.FinalEncryptEmitsTag : Prop :=
  ∀ (s : State) (ocap : Nat), s.arch.aadOpen = true ∨ s.arch.phase = .processing → s.arch.dir = true →
    s.arch.dbuf.length + s.cfg.t ≤ ocap → accepts s.room (s.arch.dbuf.length + s.cfg.t) = true →
    let m := closedMsg s.cfg true (messageStart s.cfg s.arch) s.arch.dbuf
    let T := tagOf s.cfg s.arch.key m.1
    exec (.final ocap) s =
      .next (s.done 0
        { s.arch with
          phase := .finalized, st := tagSt s.cfg s.arch.key m.1, abuf := if s.arch.aadOpen then [] else s.arch.abuf
          dbuf := [], pending := false, tag := some T, err := .ok, olen := BitVec.ofNat 16 (m.2 ++ T).length } (m.2 ++ T))

/-- R83, a matching tag: FINAL when decrypting emits the last plaintext bytes and never the tag. -/
def Obligations.FinalDecryptReleases : Prop :=
  ∀ (s : State) (ocap : Nat), s.arch.aadOpen = true ∨ s.arch.phase = .processing → s.arch.dir = false →
    s.cfg.t ≤ s.arch.dbuf.length → s.arch.dbuf.length - s.cfg.t ≤ ocap →
    accepts s.room (s.arch.dbuf.length - s.cfg.t) = true →
    let m := closedMsg s.cfg false (messageStart s.cfg s.arch) (s.arch.dbuf.take (s.arch.dbuf.length - s.cfg.t))
    let T := tagOf s.cfg s.arch.key m.1
    T = s.arch.dbuf.drop (s.arch.dbuf.length - s.cfg.t) →
    exec (.final ocap) s =
      .next (s.done 0
        { s.arch with
          phase := .finalized, st := tagSt s.cfg s.arch.key m.1, abuf := if s.arch.aadOpen then [] else s.arch.abuf
          dbuf := [], pending := false, tag := some T, err := .ok, olen := BitVec.ofNat 16 m.2.length } m.2)

/-- R83, a tag that does not match in any byte: AuthenticationFailure, the same state change, nothing emitted. -/
def Obligations.FinalDecryptRejects : Prop :=
  ∀ (s : State) (ocap : Nat), s.arch.aadOpen = true ∨ s.arch.phase = .processing → s.arch.dir = false →
    s.cfg.t ≤ s.arch.dbuf.length → s.arch.dbuf.length - s.cfg.t ≤ ocap →
    let m := closedMsg s.cfg false (messageStart s.cfg s.arch) (s.arch.dbuf.take (s.arch.dbuf.length - s.cfg.t))
    let T := tagOf s.cfg s.arch.key m.1
    T ≠ s.arch.dbuf.drop (s.arch.dbuf.length - s.cfg.t) →
    exec (.final ocap) s =
      .next (s.done 0
        { s.arch with
          phase := .finalized, st := tagSt s.cfg s.arch.key m.1, abuf := if s.arch.aadOpen then [] else s.arch.abuf
          dbuf := [], pending := false, tag := some T, err := .authenticationFailure, olen := 0 } [])

/-- R83, fewer buffered bytes than a tag: AuthenticationFailure with no permutation run. -/
def Obligations.FinalDecryptShortInput : Prop :=
  ∀ (s : State) (ocap : Nat), s.arch.aadOpen = true ∨ s.arch.phase = .processing → s.arch.dir = false →
    s.arch.dbuf.length < s.cfg.t →
    exec (.final ocap) s =
      .next (s.done 0
        { s.arch with
          phase := .finalized, abuf := [], dbuf := [], pending := false, tag := none, err := .authenticationFailure
          olen := 0 } []) ∧
    commandCalls s.cfg (.final ocap) s.arch [] = []

/-! ### Errors, phases, lengths, frames -/

/-- R86, R88: the result code of every command, from its causes in the order they are checked. -/
def Obligations.ErrorCauses : Prop :=
  ∀ (i : Instr) (s t : State), exec i s = .next t →
    t.arch.err =
      match i with
      | .initEnc klen nlen | .initDec klen nlen =>
        if klen ≠ s.cfg.k then .invalidKeyLength else if nlen ≠ s.cfg.n then .invalidNonceLength else .ok
      | .aad _ =>
        if s.arch.phase = .uninitialized then .notInitialized
        else if s.arch.phase = .processing ∨ s.arch.phase = .finalized then .protocolSequenceError else .ok
      | .data ilen ocap =>
        if s.arch.phase = .uninitialized then .notInitialized
        else if s.arch.phase = .finalized then .protocolSequenceError
        else if ocap < s.cfg.r * dataBlocks s.cfg s.arch.dir s.arch.dbuf.length ilen then .bufferTooShort else .ok
      | .final ocap =>
        if s.arch.phase = .uninitialized then .notInitialized
        else if s.arch.phase = .finalized then .protocolSequenceError
        else if s.arch.dir = true then if ocap < s.arch.dbuf.length + s.cfg.t then .bufferTooShort else .ok
        else if s.arch.dbuf.length < s.cfg.t then .authenticationFailure
        else if ocap < s.arch.dbuf.length - s.cfg.t then .bufferTooShort
        else if tagOf s.cfg s.arch.key
            (closedMsg s.cfg false (messageStart s.cfg s.arch) (s.arch.dbuf.take (s.arch.dbuf.length - s.cfg.t))).1
              = s.arch.dbuf.drop (s.arch.dbuf.length - s.cfg.t) then .ok
        else .authenticationFailure
      | .reset => if s.arch.phase = .uninitialized then .notInitialized else .ok
      | .clear => .ok

/-- R87: what each error does to the state, on the states the engine can be in. -/
def Obligations.ErrorEffects : Prop :=
  ∀ (i : Instr) (s t : State), s.Inv → exec i s = .next t →
    t.arch.err ≠ .illegalCommand ∧
    (t.arch.err = .protocolSequenceError ∨ t.arch.err = .notInitialized ∨ t.arch.err = .bufferTooShort →
      t = s.done i.oplen { s.arch with err := t.arch.err, olen := 0 } []) ∧
    (t.arch.err = .invalidKeyLength ∨ t.arch.err = .invalidNonceLength →
      t = s.done i.oplen { Arch.reset s.cfg with err := t.arch.err } []) ∧
    (t.arch.err = .authenticationFailure →
      (∃ ocap, i = .final ocap) ∧ t.arch.phase = .finalized ∧ t.arch.abuf = [] ∧ t.arch.dbuf = [] ∧
      t.arch.pending = false ∧ t.arch.olen = 0 ∧ t.dout = s.dout ∧
      (s.arch.dbuf.length < s.cfg.t → t.arch.st = s.arch.st ∧ t.arch.tag = none) ∧
      (s.cfg.t ≤ s.arch.dbuf.length → t.arch.tag.isSome = true)) ∧
    cmdReady t = s.rstN

/-- R89: the command × phase table, on the states the engine can be in. -/
def Obligations.PhaseTable : Prop :=
  ∀ s t : State, s.Inv →
    (∀ k n, exec (.initEnc k n) s = .next t ∨ exec (.initDec k n) s = .next t →
      if k = s.cfg.k ∧ n = s.cfg.n then t.arch.err = .ok ∧ t.arch.phase = .initialized
      else (t.arch.err = .invalidKeyLength ∨ t.arch.err = .invalidNonceLength) ∧ t.arch.phase = .uninitialized) ∧
    (∀ n, exec (.aad n) s = .next t →
      match s.arch.phase with
      | .uninitialized => t.arch.err = .notInitialized ∧ t.arch.phase = s.arch.phase
      | .initialized | .absorbingAad => t.arch.err = .ok ∧ t.arch.phase = .absorbingAad
      | .processing | .finalized => t.arch.err = .protocolSequenceError ∧ t.arch.phase = s.arch.phase) ∧
    (∀ n m, exec (.data n m) s = .next t →
      match s.arch.phase with
      | .uninitialized => t.arch.err = .notInitialized ∧ t.arch.phase = s.arch.phase
      | .initialized | .absorbingAad | .processing =>
        (t.arch.err = .ok ∧ t.arch.phase = .processing) ∨
          (t.arch.err = .bufferTooShort ∧ t.arch.phase = s.arch.phase)
      | .finalized => t.arch.err = .protocolSequenceError ∧ t.arch.phase = s.arch.phase) ∧
    (∀ m, exec (.final m) s = .next t →
      match s.arch.phase, s.arch.dir with
      | .uninitialized, _ => t.arch.err = .notInitialized ∧ t.arch.phase = s.arch.phase
      | .finalized, _ => t.arch.err = .protocolSequenceError ∧ t.arch.phase = s.arch.phase
      | .initialized, true | .absorbingAad, true | .processing, true =>
        (t.arch.err = .ok ∧ t.arch.phase = .finalized) ∨
          (t.arch.err = .bufferTooShort ∧ t.arch.phase = s.arch.phase)
      | .initialized, false | .absorbingAad, false =>
        t.arch.err = .authenticationFailure ∧ t.arch.phase = .finalized
      | .processing, false =>
        ((t.arch.err = .ok ∨ t.arch.err = .authenticationFailure) ∧ t.arch.phase = .finalized) ∨
          (t.arch.err = .bufferTooShort ∧ t.arch.phase = s.arch.phase)) ∧
    (exec .reset s = .next t →
      if s.arch.phase = .uninitialized then t.arch.err = .notInitialized ∧ t.arch.phase = s.arch.phase
      else t.arch.err = .ok ∧ t.arch.phase = .initialized) ∧
    (exec .clear s = .next t → t.arch.err = .ok ∧ t.arch.phase = .uninitialized) ∧
    (∀ w ws e, s.rstN = true → s.flight = .idle → s.cmdq = w :: ws → decode w = .error e → step s = .next t →
      t.arch.err = .illegalCommand ∧ t.arch.phase = s.arch.phase)

/-- R71: drain counts and output lengths of DATA and FINAL, and what stays buffered. -/
def Obligations.OutputLengths : Prop :=
  ∀ s t : State, s.Inv →
    (∀ L ocap, exec (.data L ocap) s = .next t → t.arch.err = .ok →
      let B := s.arch.dbuf.length
      let nb :=
        if s.arch.dir = true then (B + L) / s.cfg.r
        else if B + L ≥ s.cfg.t then (B + L - s.cfg.t) / s.cfg.r else 0
      t.dout.length = s.dout.length + s.cfg.r * nb ∧ t.arch.dbuf.length = B + L - s.cfg.r * nb ∧
      t.arch.dbuf.length ≤ if s.arch.dir = true then s.cfg.r - 1 else s.cfg.r + s.cfg.t - 1) ∧
    (∀ ocap, exec (.final ocap) s = .next t →
      t.dout.length =
        s.dout.length +
          if t.arch.err = .ok then
            (if s.arch.dir = true then s.arch.dbuf.length + s.cfg.t else s.arch.dbuf.length - s.cfg.t)
          else 0)

/-- R74: STATUS.OLEN never wraps, it is the number of bytes the command emitted. -/
def Obligations.OlenIsOutputLength : Prop :=
  ∀ (i : Instr) (s t : State), i.wellFormed = true → exec i s = .next t →
    t.dout.length = s.dout.length + t.arch.olen.toNat

/-- R19's column "written by", as a frame: what each command leaves unchanged. -/
def Obligations.CommandsWriteOnlyTheirState : Prop :=
  ∀ (i : Instr) (s t : State), exec i s = .next t →
    t.variant = s.variant ∧ t.rstN = s.rstN ∧ t.cmdq = s.cmdq ∧ t.busy = false ∧ t.flight = .idle ∧
    (∃ out, t.dout = s.dout ++ out) ∧
    match i with
    | .initEnc _ _ | .initDec _ _ | .clear => t.dout = s.dout
    | .aad _ =>
      t.dout = s.dout ∧ t.arch.key = s.arch.key ∧ t.arch.nonce = s.arch.nonce ∧ t.arch.dir = s.arch.dir ∧
      t.arch.dbuf = s.arch.dbuf ∧ t.arch.tag = s.arch.tag
    | .data _ _ =>
      t.arch.key = s.arch.key ∧ t.arch.nonce = s.arch.nonce ∧ t.arch.dir = s.arch.dir ∧ t.arch.tag = s.arch.tag
    | .final _ => t.arch.key = s.arch.key ∧ t.arch.nonce = s.arch.nonce ∧ t.arch.dir = s.arch.dir
    | .reset =>
      t.dout = s.dout ∧ t.arch.key = s.arch.key ∧ t.arch.nonce = s.arch.nonce ∧ t.arch.dir = s.arch.dir

/-- R85: the tag register is written once per session, by FINAL; only INIT, RESET and CLEAR end that, making it absent. -/
def Obligations.OneTagPerSession : Prop :=
  ∀ (i : Instr) (s t : State), s.Inv → exec i s = .next t →
    (t.arch.tag ≠ s.arch.tag →
      match i with
      | .final _ => s.arch.tag = none ∧ s.arch.phase ≠ .finalized ∧ t.arch.phase = .finalized
      | .initEnc _ _ | .initDec _ _ | .reset | .clear => t.arch.tag = none
      | .aad _ | .data _ _ => False) ∧
    (s.arch.phase = .finalized →
      match i with
      | .aad _ | .data _ _ | .final _ => t.arch.err = .protocolSequenceError ∧ t.arch.tag = s.arch.tag
      | .initEnc _ _ | .initDec _ _ | .reset | .clear => True)

/-! ### Procedures -/

/-- R63: the padded block is the residue, the marker, then zeros up to the rate. -/
def Obligations.PadFillsBlock : Prop :=
  ∀ (C : Cfg) (res : List Byte), res.length + 1 ≤ C.r →
    (pad C res).length = C.r ∧ (pad C res).take res.length = res ∧ (pad C res)[res.length]? = some C.padMarker ∧
    ∀ j, res.length < j → j < C.r → (pad C res)[j]? = some 0

/-- R66: the duplex, byte by byte: output, new rate bytes, and every other byte unchanged. -/
def Obligations.DuplexBytewise : Prop :=
  ∀ (dir : Bool) (st x : List Byte), x.length ≤ st.length →
    (duplexBytes dir st x).2.length = x.length ∧ (duplexBytes dir st x).1.length = st.length ∧
    (∀ (j : Nat) (u v : Byte), st[j]? = some u → x[j]? = some v →
      (duplexBytes dir st x).2[j]? = some (u ^^^ v) ∧
      (duplexBytes dir st x).1[j]? = some (if dir = true then u ^^^ v else v)) ∧
    (∀ j, x.length ≤ j → (duplexBytes dir st x).1[j]? = st[j]?)

/-- R66, R75 law 1: decrypting what was encrypted gives the plaintext back and leaves the same state bytes. -/
def Obligations.DuplexDirectionsAgree : Prop :=
  ∀ st x : List Byte, x.length ≤ st.length →
    (duplexBytes false st (duplexBytes true st x).2).2 = x ∧
    (duplexBytes false st (duplexBytes true st x).2).1 = (duplexBytes true st x).1

/-- R70: the accumulated comparison is equality of tags. -/
def Obligations.TagEqualIsEquality : Prop :=
  ∀ a b : List Byte, a.length = b.length → (tagEqual a b = true ↔ a = b)

/-- R61: which permutation calls a command makes: each with the mask of the table, at most one last-block call per stream, the
AAD one only where DATA or FINAL closes that stream, the message one only in FINAL, with the masks of cases A, B and C. -/
def Obligations.MasksFollowSchedule : Prop :=
  ∀ (C : Cfg) (i : Instr) (a : Arch) (operand : List Byte),
    let cs := commandCalls C i a operand
    let res := if a.dir = true then a.dbuf else a.dbuf.take (a.dbuf.length - C.t)
    (∀ c ∈ cs, c ∈ ([⟨.init, none⟩, ⟨.fin, none⟩, ⟨.aadInt, some .aadInt⟩, ⟨.aadLast, some .aadLast⟩,
      ⟨.aadLast, some .aadLastFull⟩, ⟨.aadLast, some .noAad⟩, ⟨.msgInt, some .msgInt⟩, ⟨.msgLast, some .msgLast⟩,
      ⟨.msgLast, some .msgLastFull⟩, ⟨.msgLast, some .emptyMsg⟩] : List PermCall)) ∧
    cs.countP (fun c => c.site == .aadLast) ≤ 1 ∧ cs.countP (fun c => c.site == .msgLast) ≤ 1 ∧
    (∀ m, ⟨.aadLast, some m⟩ ∈ cs →
      a.aadOpen = true ∧ ((∃ l o, i = .data l o) ∨ ∃ o, i = .final o) ∧
      m = if a.pending = false ∧ a.abuf = [] then .noAad
          else if a.abuf ≠ [] ∨ C.fullPolicy = .extraBlock then .aadLast else .aadLastFull) ∧
    (∀ m, ⟨.msgLast, some m⟩ ∈ cs →
      (a.aadOpen = true ∨ a.phase = .processing) ∧ (∃ o, i = .final o) ∧
      m = if (a.aadOpen = true ∨ a.pending = false) ∧ res = [] then .emptyMsg
          else if res ≠ [] ∨ C.fullPolicy = .extraBlock then .msgLast else .msgLastFull)

/-! ### Laws -/

/-- R99, R21: the permutation calls of a command and its duration depend only on the public inputs. -/
def Obligations.PublicInputsFixSchedule : Prop :=
  (∀ (C : Cfg) (i : Instr) (a a' : Arch) (operand operand' : List Byte), a.publicView = a'.publicView →
    operand.length = operand'.length → commandCalls C i a operand = commandCalls C i a' operand') ∧
  (∀ (w : CmdWord) (s s' : State), s.variant = s'.variant → s.arch.publicView = s'.arch.publicView →
    commandLatency w s = commandLatency w s')

/-- R34, R99: STATUS after a command tells nothing but the public inputs, except whether the tags of a decrypting FINAL
matched. -/
def Obligations.PublicInputsFixStatus : Prop :=
  ∀ (i : Instr) (s s' t t' : State), s.variant = s'.variant → s.arch.publicView = s'.arch.publicView →
    s.arch.Widths s.cfg → s'.arch.Widths s'.cfg →
    (∀ ocap, i = .final ocap → s.arch.dir = true ∨ s.arch.dbuf.length < s.cfg.t) →
    exec i s = .next t → exec i s' = .next t' → readPort t 0 = readPort t' 0

/-- R41, R75 law 3: two AAD commands are one AAD command with the bytes of both. -/
def Obligations.AadSplitInTwo : Prop :=
  ∀ (s t u v : State) (m n : Nat), exec (.aad m) s = .next t → t.arch.err = .ok → exec (.aad n) t = .next u →
    u.arch.err = .ok → exec (.aad (m + n)) s = .next v → u = v

/-- R41, R75 law 3: two DATA commands are one DATA command with the bytes of both, but for OLEN. -/
def Obligations.DataSplitInTwo : Prop :=
  ∀ (s t u v : State) (m n o o' o'' : Nat), exec (.data m o) s = .next t → t.arch.err = .ok →
    exec (.data n o') t = .next u → u.arch.err = .ok → exec (.data (m + n) o'') s = .next v → v.arch.err = .ok →
    { u with arch := { u.arch with olen := 0 } } = { v with arch := { v.arch with olen := 0 } }

/-- R75 law 3: output and final state depend only on the concatenation of the AAD operands and of the DATA operands, never on
how they are split across commands. -/
def Obligations.StreamingEquivalence : Prop :=
  ∀ (s t t' u u' : State) (as as' ds ds' : List (List Byte)) (ocap : Nat),
    as ≠ [] → as' ≠ [] → as.flatten = as'.flatten → ds ≠ [] → ds' ≠ [] → ds.flatten = ds'.flatten →
    feed .aad as s = .next t → t.arch.err = .ok → feed .aad as' s = .next t' → t'.arch.err = .ok →
    feed (.data · ocap) ds t = .next u → u.arch.err = .ok → feed (.data · ocap) ds' t' = .next u' → u'.arch.err = .ok →
    t = t' ∧ u.dout = u'.dout ∧
    { u with arch := { u.arch with olen := 0 } } = { u' with arch := { u'.arch with olen := 0 } }

/-- R75 law 2, R59: DECRYPT of the output of ENCRYPT, from reset, completes with OK and gives the message back, for every
configuration, key, nonce, associated data and message, of any length. -/
def Obligations.RoundTrip : Prop :=
  ∀ (v : Variant) (K N A P : List Byte), K.length = v.cfg.k → N.length = v.cfg.n →
    ∃ u w : State,
      Host.Core.run Sys2Proof.core (encryptLines K N A P).length
        ((State.resetOf v).present (encryptLines K N A P)) = .next u ∧
      u.arch.err = .ok ∧ u.dout.length = P.length + v.cfg.t ∧
      Host.Core.run Sys2Proof.core (decryptLines K N A u.dout).length
        ((State.resetOf v).present (decryptLines K N A u.dout)) = .next w ∧
      w.arch.err = .ok ∧ w.dout = P
end

