-- ==== Sys2Proof/Laws/Bytes.lean ====
section
/-! SUPPORT. What the byte-list operations do to lengths, and that reading at a width changes nothing at that width. -/

namespace Sys2Proof

/-- A list of the right width is read as it is. -/
theorem fitList_of_length : ∀ {m : Nat} {l : List Byte}, l.length = m → fitList m l = l
  | 0, [], _ => rfl
  | _ + 1, _ :: _, h => congrArg _ (fitList_of_length (Nat.succ.inj h))

@[simp] theorem Bytes.fit_toList (m : Nat) (l : List Byte) : (Bytes.fit m l).toList = fitList m l := rfl

@[simp] theorem zeroBytes_length (m : Nat) : (zeroBytes m).length = m := List.length_replicate

@[simp] theorem xorAt_nil (a : Nat) (st : List Byte) : xorAt a st [] = st := by
  cases st <;> cases a <;> rfl

/-- The ranged XOR keeps the length (R15). -/
@[simp] theorem xorAt_length : ∀ (a : Nat) (st v : List Byte), (xorAt a st v).length = st.length
  | _, [], _ => by simp [xorAt]
  | 0, _ :: _, [] => rfl
  | _ + 1, _ :: _, [] => rfl
  | 0, _ :: st, _ :: v => congrArg Nat.succ (xorAt_length 0 st v)
  | a + 1, _ :: st, b :: v => congrArg Nat.succ (xorAt_length a st (b :: v))

/-- The duplex keeps the length of the state (R66). -/
@[simp] theorem duplexBytes_st_length (enc : Bool) :
    ∀ st x : List Byte, (duplexBytes enc st x).1.length = st.length
  | _, [] => by simp [duplexBytes]
  | [], _ :: _ => rfl
  | _ :: st, _ :: xs => congrArg Nat.succ (duplexBytes_st_length enc st xs)

/-- The duplex emits no more bytes than it takes (R66). -/
theorem duplexBytes_out_length_le (enc : Bool) :
    ∀ st x : List Byte, (duplexBytes enc st x).2.length ≤ x.length
  | _, [] => by simp [duplexBytes]
  | [], _ :: _ => Nat.zero_le _
  | _ :: st, _ :: xs => Nat.succ_le_succ (duplexBytes_out_length_le enc st xs)

theorem slice_length_le (l : List Byte) (a m : Nat) : (slice l a m).length ≤ m := by
  simp [slice]

namespace Machine

/-- The permutation core gives `S` bytes (R9). -/
@[simp] theorem permuteBytes_length (C : Cfg) (site : Site) (x : List Byte) : (permuteBytes C site x).length = C.S :=
  (C.permute site _).length_eq

end Machine

end Sys2Proof
end

