-- ==== Sys2Proof/Laws/State.lean ====
section
/-! SUPPORT. One lemma per field per update of the state records, each true by `rfl`, so that no proof unfolds an update. -/

namespace Sys2Proof.Machine

@[simp] theorem Arch.setPhase_phase (v : Phase) (a : Arch) : (Arch.setPhase v a).phase = v := rfl
@[simp] theorem Arch.setPhase_dir (v : Phase) (a : Arch) : (Arch.setPhase v a).dir = a.dir := rfl
@[simp] theorem Arch.setPhase_st (v : Phase) (a : Arch) : (Arch.setPhase v a).st = a.st := rfl
@[simp] theorem Arch.setPhase_key (v : Phase) (a : Arch) : (Arch.setPhase v a).key = a.key := rfl
@[simp] theorem Arch.setPhase_nonce (v : Phase) (a : Arch) : (Arch.setPhase v a).nonce = a.nonce := rfl
@[simp] theorem Arch.setPhase_abuf (v : Phase) (a : Arch) : (Arch.setPhase v a).abuf = a.abuf := rfl
@[simp] theorem Arch.setPhase_dbuf (v : Phase) (a : Arch) : (Arch.setPhase v a).dbuf = a.dbuf := rfl
@[simp] theorem Arch.setPhase_pending (v : Phase) (a : Arch) : (Arch.setPhase v a).pending = a.pending := rfl
@[simp] theorem Arch.setPhase_tag (v : Phase) (a : Arch) : (Arch.setPhase v a).tag = a.tag := rfl
@[simp] theorem Arch.setPhase_err (v : Phase) (a : Arch) : (Arch.setPhase v a).err = a.err := rfl
@[simp] theorem Arch.setPhase_olen (v : Phase) (a : Arch) : (Arch.setPhase v a).olen = a.olen := rfl

@[simp] theorem Arch.setSt_phase (v : List Byte) (a : Arch) : (Arch.setSt v a).phase = a.phase := rfl
@[simp] theorem Arch.setSt_dir (v : List Byte) (a : Arch) : (Arch.setSt v a).dir = a.dir := rfl
@[simp] theorem Arch.setSt_st (v : List Byte) (a : Arch) : (Arch.setSt v a).st = v := rfl
@[simp] theorem Arch.setSt_key (v : List Byte) (a : Arch) : (Arch.setSt v a).key = a.key := rfl
@[simp] theorem Arch.setSt_nonce (v : List Byte) (a : Arch) : (Arch.setSt v a).nonce = a.nonce := rfl
@[simp] theorem Arch.setSt_abuf (v : List Byte) (a : Arch) : (Arch.setSt v a).abuf = a.abuf := rfl
@[simp] theorem Arch.setSt_dbuf (v : List Byte) (a : Arch) : (Arch.setSt v a).dbuf = a.dbuf := rfl
@[simp] theorem Arch.setSt_pending (v : List Byte) (a : Arch) : (Arch.setSt v a).pending = a.pending := rfl
@[simp] theorem Arch.setSt_tag (v : List Byte) (a : Arch) : (Arch.setSt v a).tag = a.tag := rfl
@[simp] theorem Arch.setSt_err (v : List Byte) (a : Arch) : (Arch.setSt v a).err = a.err := rfl
@[simp] theorem Arch.setSt_olen (v : List Byte) (a : Arch) : (Arch.setSt v a).olen = a.olen := rfl

@[simp] theorem Arch.setAbuf_phase (v : List Byte) (a : Arch) : (Arch.setAbuf v a).phase = a.phase := rfl
@[simp] theorem Arch.setAbuf_dir (v : List Byte) (a : Arch) : (Arch.setAbuf v a).dir = a.dir := rfl
@[simp] theorem Arch.setAbuf_st (v : List Byte) (a : Arch) : (Arch.setAbuf v a).st = a.st := rfl
@[simp] theorem Arch.setAbuf_key (v : List Byte) (a : Arch) : (Arch.setAbuf v a).key = a.key := rfl
@[simp] theorem Arch.setAbuf_nonce (v : List Byte) (a : Arch) : (Arch.setAbuf v a).nonce = a.nonce := rfl
@[simp] theorem Arch.setAbuf_abuf (v : List Byte) (a : Arch) : (Arch.setAbuf v a).abuf = v := rfl
@[simp] theorem Arch.setAbuf_dbuf (v : List Byte) (a : Arch) : (Arch.setAbuf v a).dbuf = a.dbuf := rfl
@[simp] theorem Arch.setAbuf_pending (v : List Byte) (a : Arch) : (Arch.setAbuf v a).pending = a.pending := rfl
@[simp] theorem Arch.setAbuf_tag (v : List Byte) (a : Arch) : (Arch.setAbuf v a).tag = a.tag := rfl
@[simp] theorem Arch.setAbuf_err (v : List Byte) (a : Arch) : (Arch.setAbuf v a).err = a.err := rfl
@[simp] theorem Arch.setAbuf_olen (v : List Byte) (a : Arch) : (Arch.setAbuf v a).olen = a.olen := rfl

@[simp] theorem Arch.setDbuf_phase (v : List Byte) (a : Arch) : (Arch.setDbuf v a).phase = a.phase := rfl
@[simp] theorem Arch.setDbuf_dir (v : List Byte) (a : Arch) : (Arch.setDbuf v a).dir = a.dir := rfl
@[simp] theorem Arch.setDbuf_st (v : List Byte) (a : Arch) : (Arch.setDbuf v a).st = a.st := rfl
@[simp] theorem Arch.setDbuf_key (v : List Byte) (a : Arch) : (Arch.setDbuf v a).key = a.key := rfl
@[simp] theorem Arch.setDbuf_nonce (v : List Byte) (a : Arch) : (Arch.setDbuf v a).nonce = a.nonce := rfl
@[simp] theorem Arch.setDbuf_abuf (v : List Byte) (a : Arch) : (Arch.setDbuf v a).abuf = a.abuf := rfl
@[simp] theorem Arch.setDbuf_dbuf (v : List Byte) (a : Arch) : (Arch.setDbuf v a).dbuf = v := rfl
@[simp] theorem Arch.setDbuf_pending (v : List Byte) (a : Arch) : (Arch.setDbuf v a).pending = a.pending := rfl
@[simp] theorem Arch.setDbuf_tag (v : List Byte) (a : Arch) : (Arch.setDbuf v a).tag = a.tag := rfl
@[simp] theorem Arch.setDbuf_err (v : List Byte) (a : Arch) : (Arch.setDbuf v a).err = a.err := rfl
@[simp] theorem Arch.setDbuf_olen (v : List Byte) (a : Arch) : (Arch.setDbuf v a).olen = a.olen := rfl

@[simp] theorem Arch.setPending_phase (v : Bool) (a : Arch) : (Arch.setPending v a).phase = a.phase := rfl
@[simp] theorem Arch.setPending_dir (v : Bool) (a : Arch) : (Arch.setPending v a).dir = a.dir := rfl
@[simp] theorem Arch.setPending_st (v : Bool) (a : Arch) : (Arch.setPending v a).st = a.st := rfl
@[simp] theorem Arch.setPending_key (v : Bool) (a : Arch) : (Arch.setPending v a).key = a.key := rfl
@[simp] theorem Arch.setPending_nonce (v : Bool) (a : Arch) : (Arch.setPending v a).nonce = a.nonce := rfl
@[simp] theorem Arch.setPending_abuf (v : Bool) (a : Arch) : (Arch.setPending v a).abuf = a.abuf := rfl
@[simp] theorem Arch.setPending_dbuf (v : Bool) (a : Arch) : (Arch.setPending v a).dbuf = a.dbuf := rfl
@[simp] theorem Arch.setPending_pending (v : Bool) (a : Arch) : (Arch.setPending v a).pending = v := rfl
@[simp] theorem Arch.setPending_tag (v : Bool) (a : Arch) : (Arch.setPending v a).tag = a.tag := rfl
@[simp] theorem Arch.setPending_err (v : Bool) (a : Arch) : (Arch.setPending v a).err = a.err := rfl
@[simp] theorem Arch.setPending_olen (v : Bool) (a : Arch) : (Arch.setPending v a).olen = a.olen := rfl

@[simp] theorem Arch.setTag_phase (v : Option (List Byte)) (a : Arch) : (Arch.setTag v a).phase = a.phase := rfl
@[simp] theorem Arch.setTag_dir (v : Option (List Byte)) (a : Arch) : (Arch.setTag v a).dir = a.dir := rfl
@[simp] theorem Arch.setTag_st (v : Option (List Byte)) (a : Arch) : (Arch.setTag v a).st = a.st := rfl
@[simp] theorem Arch.setTag_key (v : Option (List Byte)) (a : Arch) : (Arch.setTag v a).key = a.key := rfl
@[simp] theorem Arch.setTag_nonce (v : Option (List Byte)) (a : Arch) : (Arch.setTag v a).nonce = a.nonce := rfl
@[simp] theorem Arch.setTag_abuf (v : Option (List Byte)) (a : Arch) : (Arch.setTag v a).abuf = a.abuf := rfl
@[simp] theorem Arch.setTag_dbuf (v : Option (List Byte)) (a : Arch) : (Arch.setTag v a).dbuf = a.dbuf := rfl
@[simp] theorem Arch.setTag_pending (v : Option (List Byte)) (a : Arch) : (Arch.setTag v a).pending = a.pending := rfl
@[simp] theorem Arch.setTag_tag (v : Option (List Byte)) (a : Arch) : (Arch.setTag v a).tag = v := rfl
@[simp] theorem Arch.setTag_err (v : Option (List Byte)) (a : Arch) : (Arch.setTag v a).err = a.err := rfl
@[simp] theorem Arch.setTag_olen (v : Option (List Byte)) (a : Arch) : (Arch.setTag v a).olen = a.olen := rfl

@[simp] theorem Arch.setSession_phase (k n : List Byte) (d : Bool) (a : Arch) : (Arch.setSession k n d a).phase = a.phase := rfl
@[simp] theorem Arch.setSession_dir (k n : List Byte) (d : Bool) (a : Arch) : (Arch.setSession k n d a).dir = d := rfl
@[simp] theorem Arch.setSession_st (k n : List Byte) (d : Bool) (a : Arch) : (Arch.setSession k n d a).st = a.st := rfl
@[simp] theorem Arch.setSession_key (k n : List Byte) (d : Bool) (a : Arch) : (Arch.setSession k n d a).key = k := rfl
@[simp] theorem Arch.setSession_nonce (k n : List Byte) (d : Bool) (a : Arch) : (Arch.setSession k n d a).nonce = n := rfl
@[simp] theorem Arch.setSession_abuf (k n : List Byte) (d : Bool) (a : Arch) : (Arch.setSession k n d a).abuf = a.abuf := rfl
@[simp] theorem Arch.setSession_dbuf (k n : List Byte) (d : Bool) (a : Arch) : (Arch.setSession k n d a).dbuf = a.dbuf := rfl
@[simp] theorem Arch.setSession_pending (k n : List Byte) (d : Bool) (a : Arch) : (Arch.setSession k n d a).pending = a.pending := rfl
@[simp] theorem Arch.setSession_tag (k n : List Byte) (d : Bool) (a : Arch) : (Arch.setSession k n d a).tag = a.tag := rfl
@[simp] theorem Arch.setSession_err (k n : List Byte) (d : Bool) (a : Arch) : (Arch.setSession k n d a).err = a.err := rfl
@[simp] theorem Arch.setSession_olen (k n : List Byte) (d : Bool) (a : Arch) : (Arch.setSession k n d a).olen = a.olen := rfl

@[simp] theorem Arch.setStatus_phase (e : ResultCode) (m : Nat) (a : Arch) : (Arch.setStatus e m a).phase = a.phase := rfl
@[simp] theorem Arch.setStatus_dir (e : ResultCode) (m : Nat) (a : Arch) : (Arch.setStatus e m a).dir = a.dir := rfl
@[simp] theorem Arch.setStatus_st (e : ResultCode) (m : Nat) (a : Arch) : (Arch.setStatus e m a).st = a.st := rfl
@[simp] theorem Arch.setStatus_key (e : ResultCode) (m : Nat) (a : Arch) : (Arch.setStatus e m a).key = a.key := rfl
@[simp] theorem Arch.setStatus_nonce (e : ResultCode) (m : Nat) (a : Arch) : (Arch.setStatus e m a).nonce = a.nonce := rfl
@[simp] theorem Arch.setStatus_abuf (e : ResultCode) (m : Nat) (a : Arch) : (Arch.setStatus e m a).abuf = a.abuf := rfl
@[simp] theorem Arch.setStatus_dbuf (e : ResultCode) (m : Nat) (a : Arch) : (Arch.setStatus e m a).dbuf = a.dbuf := rfl
@[simp] theorem Arch.setStatus_pending (e : ResultCode) (m : Nat) (a : Arch) : (Arch.setStatus e m a).pending = a.pending := rfl
@[simp] theorem Arch.setStatus_tag (e : ResultCode) (m : Nat) (a : Arch) : (Arch.setStatus e m a).tag = a.tag := rfl
@[simp] theorem Arch.setStatus_err (e : ResultCode) (m : Nat) (a : Arch) : (Arch.setStatus e m a).err = e := rfl
@[simp] theorem Arch.setStatus_olen (e : ResultCode) (m : Nat) (a : Arch) : (Arch.setStatus e m a).olen = BitVec.ofNat 16 m := rfl

@[simp] theorem zeroiseArch_phase (C : Cfg) (a : Arch) : (zeroiseArch C a).phase = .uninitialized := rfl
@[simp] theorem zeroiseArch_dir (C : Cfg) (a : Arch) : (zeroiseArch C a).dir = false := rfl
@[simp] theorem zeroiseArch_st (C : Cfg) (a : Arch) : (zeroiseArch C a).st = zeroBytes C.S := rfl
@[simp] theorem zeroiseArch_key (C : Cfg) (a : Arch) : (zeroiseArch C a).key = zeroBytes C.k := rfl
@[simp] theorem zeroiseArch_nonce (C : Cfg) (a : Arch) : (zeroiseArch C a).nonce = zeroBytes C.n := rfl
@[simp] theorem zeroiseArch_abuf (C : Cfg) (a : Arch) : (zeroiseArch C a).abuf = [] := rfl
@[simp] theorem zeroiseArch_dbuf (C : Cfg) (a : Arch) : (zeroiseArch C a).dbuf = [] := rfl
@[simp] theorem zeroiseArch_pending (C : Cfg) (a : Arch) : (zeroiseArch C a).pending = false := rfl
@[simp] theorem zeroiseArch_tag (C : Cfg) (a : Arch) : (zeroiseArch C a).tag = none := rfl
@[simp] theorem zeroiseArch_err (C : Cfg) (a : Arch) : (zeroiseArch C a).err = a.err := rfl
@[simp] theorem zeroiseArch_olen (C : Cfg) (a : Arch) : (zeroiseArch C a).olen = a.olen := rfl

@[simp] theorem Arch.reset_phase (C : Cfg) : (Arch.reset C).phase = .uninitialized := rfl
@[simp] theorem Arch.reset_dir (C : Cfg) : (Arch.reset C).dir = false := rfl
@[simp] theorem Arch.reset_st (C : Cfg) : (Arch.reset C).st = zeroBytes C.S := rfl
@[simp] theorem Arch.reset_key (C : Cfg) : (Arch.reset C).key = zeroBytes C.k := rfl
@[simp] theorem Arch.reset_nonce (C : Cfg) : (Arch.reset C).nonce = zeroBytes C.n := rfl
@[simp] theorem Arch.reset_abuf (C : Cfg) : (Arch.reset C).abuf = [] := rfl
@[simp] theorem Arch.reset_dbuf (C : Cfg) : (Arch.reset C).dbuf = [] := rfl
@[simp] theorem Arch.reset_pending (C : Cfg) : (Arch.reset C).pending = false := rfl
@[simp] theorem Arch.reset_tag (C : Cfg) : (Arch.reset C).tag = none := rfl
@[simp] theorem Arch.reset_err (C : Cfg) : (Arch.reset C).err = .ok := rfl
@[simp] theorem Arch.reset_olen (C : Cfg) : (Arch.reset C).olen = 0 := rfl

@[simp] theorem State.complete_variant (a : Arch) (out : List Byte) (s : State) : (s.complete a out).variant = s.variant := rfl
@[simp] theorem State.complete_arch (a : Arch) (out : List Byte) (s : State) : (s.complete a out).arch = a := rfl
@[simp] theorem State.complete_busy (a : Arch) (out : List Byte) (s : State) : (s.complete a out).busy = false := rfl
@[simp] theorem State.complete_flight (a : Arch) (out : List Byte) (s : State) : (s.complete a out).flight = .idle := rfl
@[simp] theorem State.complete_rstN (a : Arch) (out : List Byte) (s : State) : (s.complete a out).rstN = s.rstN := rfl
@[simp] theorem State.complete_cmdq (a : Arch) (out : List Byte) (s : State) : (s.complete a out).cmdq = s.cmdq := rfl
@[simp] theorem State.complete_din (a : Arch) (out : List Byte) (s : State) : (s.complete a out).din = s.din := rfl
@[simp] theorem State.complete_dout (a : Arch) (out : List Byte) (s : State) : (s.complete a out).dout = s.dout ++ out := rfl
@[simp] theorem State.complete_room (a : Arch) (out : List Byte) (s : State) : (s.complete a out).room = s.room.map (· - out.length) := rfl

@[simp] theorem State.done_variant (s : State) (need : Nat) (a : Arch) (out : List Byte) : (s.done need a out).variant = s.variant := rfl
@[simp] theorem State.done_arch (s : State) (need : Nat) (a : Arch) (out : List Byte) : (s.done need a out).arch = a := rfl
@[simp] theorem State.done_busy (s : State) (need : Nat) (a : Arch) (out : List Byte) : (s.done need a out).busy = false := rfl
@[simp] theorem State.done_flight (s : State) (need : Nat) (a : Arch) (out : List Byte) : (s.done need a out).flight = .idle := rfl
@[simp] theorem State.done_rstN (s : State) (need : Nat) (a : Arch) (out : List Byte) : (s.done need a out).rstN = s.rstN := rfl
@[simp] theorem State.done_cmdq (s : State) (need : Nat) (a : Arch) (out : List Byte) : (s.done need a out).cmdq = s.cmdq := rfl
@[simp] theorem State.done_din (s : State) (need : Nat) (a : Arch) (out : List Byte) : (s.done need a out).din = s.din.drop need := rfl
@[simp] theorem State.done_dout (s : State) (need : Nat) (a : Arch) (out : List Byte) : (s.done need a out).dout = s.dout ++ out := rfl
@[simp] theorem State.done_room (s : State) (need : Nat) (a : Arch) (out : List Byte) : (s.done need a out).room = s.room.map (· - out.length) := rfl

@[simp] theorem State.hwReset_variant (s : State) : s.hwReset.variant = s.variant := rfl
@[simp] theorem State.hwReset_arch (s : State) : s.hwReset.arch = Arch.reset s.cfg := rfl
@[simp] theorem State.hwReset_busy (s : State) : s.hwReset.busy = false := rfl
@[simp] theorem State.hwReset_flight (s : State) : s.hwReset.flight = .idle := rfl
@[simp] theorem State.hwReset_rstN (s : State) : s.hwReset.rstN = s.rstN := rfl
@[simp] theorem State.hwReset_cmdq (s : State) : s.hwReset.cmdq = s.cmdq := rfl
@[simp] theorem State.hwReset_din (s : State) : s.hwReset.din = s.din := rfl
@[simp] theorem State.hwReset_dout (s : State) : s.hwReset.dout = s.dout := rfl
@[simp] theorem State.hwReset_room (s : State) : s.hwReset.room = s.room := rfl

@[simp] theorem State.complete_cfg (s : State) (a : Arch) (out : List Byte) : (State.complete a out s).cfg = s.cfg := rfl
@[simp] theorem State.done_cfg (s : State) (need : Nat) (a : Arch) (out : List Byte) : (State.done s need a out).cfg = s.cfg := rfl
@[simp] theorem State.hwReset_cfg (s : State) : s.hwReset.cfg = s.cfg := rfl

@[simp] theorem State.resetOf_variant (v : Variant) : (State.resetOf v).variant = v := rfl
@[simp] theorem State.resetOf_arch (v : Variant) : (State.resetOf v).arch = Arch.reset v.cfg := rfl
@[simp] theorem State.resetOf_busy (v : Variant) : (State.resetOf v).busy = false := rfl
@[simp] theorem State.resetOf_flight (v : Variant) : (State.resetOf v).flight = .idle := rfl
@[simp] theorem State.resetOf_rstN (v : Variant) : (State.resetOf v).rstN = true := rfl
@[simp] theorem State.resetOf_cmdq (v : Variant) : (State.resetOf v).cmdq = [] := rfl
@[simp] theorem State.resetOf_din (v : Variant) : (State.resetOf v).din = [] := rfl
@[simp] theorem State.resetOf_dout (v : Variant) : (State.resetOf v).dout = [] := rfl
@[simp] theorem State.resetOf_room (v : Variant) : (State.resetOf v).room = none := rfl

@[simp] theorem Work.start_arch (a : Arch) (op : List Byte) : (Work.start a op).arch = a := rfl
@[simp] theorem Work.start_operand (a : Arch) (op : List Byte) : (Work.start a op).operand = op := rfl
@[simp] theorem Work.start_out (a : Arch) (op : List Byte) : (Work.start a op).out = [] := rfl
@[simp] theorem Work.start_calls (a : Arch) (op : List Byte) : (Work.start a op).calls = [] := rfl
@[simp] theorem Work.onArch_arch (f : Arch → Arch) (x : Work) : (x.onArch f).arch = f x.arch := rfl
@[simp] theorem Work.onArch_operand (f : Arch → Arch) (x : Work) : (x.onArch f).operand = x.operand := rfl
@[simp] theorem Work.onArch_out (f : Arch → Arch) (x : Work) : (x.onArch f).out = x.out := rfl
@[simp] theorem Work.onArch_calls (f : Arch → Arch) (x : Work) : (x.onArch f).calls = x.calls := rfl
@[simp] theorem outEmit_arch (o : List Byte) (x : Work) : (outEmit o x).arch = x.arch := rfl
@[simp] theorem outEmit_operand (o : List Byte) (x : Work) : (outEmit o x).operand = x.operand := rfl
@[simp] theorem outEmit_out (o : List Byte) (x : Work) : (outEmit o x).out = x.out ++ o := rfl
@[simp] theorem outEmit_calls (o : List Byte) (x : Work) : (outEmit o x).calls = x.calls := rfl
@[simp] theorem inTake_fst (m : Nat) (x : Work) : (inTake m x).1 = x.operand.take m := rfl
@[simp] theorem inTake_arch (m : Nat) (x : Work) : (inTake m x).2.arch = x.arch := rfl
@[simp] theorem inTake_operand (m : Nat) (x : Work) : (inTake m x).2.operand = x.operand.drop m := rfl
@[simp] theorem inTake_out (m : Nat) (x : Work) : (inTake m x).2.out = x.out := rfl
@[simp] theorem inTake_calls (m : Nat) (x : Work) : (inTake m x).2.calls = x.calls := rfl
@[simp] theorem finish_arch (x : Work) : (finish x).arch = x.arch.setStatus .ok x.out.length := rfl
@[simp] theorem finish_operand (x : Work) : (finish x).operand = x.operand := rfl
@[simp] theorem finish_out (x : Work) : (finish x).out = x.out := rfl
@[simp] theorem finish_calls (x : Work) : (finish x).calls = x.calls := rfl
@[simp] theorem raise_arch (e : ResultCode) (x : Work) : (raise e x).arch = x.arch.setStatus e 0 := rfl
@[simp] theorem raise_operand (e : ResultCode) (x : Work) : (raise e x).operand = x.operand := rfl
@[simp] theorem raise_out (e : ResultCode) (x : Work) : (raise e x).out = x.out := rfl
@[simp] theorem raise_calls (e : ResultCode) (x : Work) : (raise e x).calls = x.calls := rfl
@[simp] theorem zeroise_arch (C : Cfg) (x : Work) : (zeroise C x).arch = zeroiseArch C x.arch := rfl
@[simp] theorem zeroise_operand (C : Cfg) (x : Work) : (zeroise C x).operand = x.operand := rfl
@[simp] theorem zeroise_out (C : Cfg) (x : Work) : (zeroise C x).out = x.out := rfl
@[simp] theorem zeroise_calls (C : Cfg) (x : Work) : (zeroise C x).calls = x.calls := rfl

end Sys2Proof.Machine
end

