-- ==== Sys2Proof/Laws/Datapath.lean ====
section
/-! SUPPORT. What each datapath procedure does to the architectural state, the output and the log of permutation calls, said
once: its architectural state as one record update, everything else by field. -/

namespace Sys2Proof.Machine

@[simp] theorem xorState_arch (a : Nat) (v : List Byte) (x : Work) :
    (xorState a v x).arch = x.arch.setSt (xorAt a x.arch.st v) := rfl
@[simp] theorem xorState_operand (a : Nat) (v : List Byte) (x : Work) : (xorState a v x).operand = x.operand := rfl
@[simp] theorem xorState_out (a : Nat) (v : List Byte) (x : Work) : (xorState a v x).out = x.out := rfl
@[simp] theorem xorState_calls (a : Nat) (v : List Byte) (x : Work) : (xorState a v x).calls = x.calls := rfl

@[simp] theorem permutePlain_arch (C : Cfg) (site : Site) (x : Work) :
    (permutePlain C site x).arch = x.arch.setSt (permuteBytes C site x.arch.st) := rfl
@[simp] theorem permutePlain_operand (C : Cfg) (site : Site) (x : Work) :
    (permutePlain C site x).operand = x.operand := rfl
@[simp] theorem permutePlain_out (C : Cfg) (site : Site) (x : Work) : (permutePlain C site x).out = x.out := rfl
@[simp] theorem permutePlain_calls (C : Cfg) (site : Site) (x : Work) :
    (permutePlain C site x).calls = x.calls ++ [{ site := site, mask := none }] := rfl

@[simp] theorem permuteAt_arch (C : Cfg) (site : Site) (m : Mask) (x : Work) :
    (permuteAt C site m x).arch = x.arch.setSt (permuteBytes C site (xorAt 0 x.arch.st (C.mask m).toList)) := rfl
@[simp] theorem permuteAt_operand (C : Cfg) (site : Site) (m : Mask) (x : Work) :
    (permuteAt C site m x).operand = x.operand := rfl
@[simp] theorem permuteAt_out (C : Cfg) (site : Site) (m : Mask) (x : Work) : (permuteAt C site m x).out = x.out := rfl
@[simp] theorem permuteAt_calls (C : Cfg) (site : Site) (m : Mask) (x : Work) :
    (permuteAt C site m x).calls = x.calls ++ [{ site := site, mask := some m }] := rfl

@[simp] theorem permuteIfPending_arch (C : Cfg) (site : Site) (m : Mask) (x : Work) :
    (permuteIfPending C site m x).arch = x.arch.setSt (deferred C site m x.arch.pending x.arch.st) := by
  unfold permuteIfPending deferred
  split <;> rfl
@[simp] theorem permuteIfPending_operand (C : Cfg) (site : Site) (m : Mask) (x : Work) :
    (permuteIfPending C site m x).operand = x.operand := by
  unfold permuteIfPending; split <;> rfl
@[simp] theorem permuteIfPending_out (C : Cfg) (site : Site) (m : Mask) (x : Work) :
    (permuteIfPending C site m x).out = x.out := by
  unfold permuteIfPending; split <;> rfl
@[simp] theorem permuteIfPending_calls (C : Cfg) (site : Site) (m : Mask) (x : Work) :
    (permuteIfPending C site m x).calls =
      x.calls ++ if x.arch.pending then [{ site := site, mask := some m }] else [] := by
  unfold permuteIfPending; split <;> simp

/-- `InitState` (R62). -/
@[simp] theorem initState_arch (C : Cfg) (x : Work) :
    (initState C x).arch = x.arch.setSt (initialSt C x.arch.key x.arch.nonce) := rfl
@[simp] theorem initState_operand (C : Cfg) (x : Work) : (initState C x).operand = x.operand := rfl
@[simp] theorem initState_out (C : Cfg) (x : Work) : (initState C x).out = x.out := rfl
@[simp] theorem initState_calls (C : Cfg) (x : Work) :
    (initState C x).calls = x.calls ++ [{ site := .init, mask := none }] := rfl

/-- `AbsorbAadBlock` (R64). -/
@[simp] theorem absorbAadBlock_arch (C : Cfg) (b : List Byte) (x : Work) :
    (absorbAadBlock C b x).arch =
      { x.arch with st := xorAt 0 (deferred C .aadInt .aadInt x.arch.pending x.arch.st) b, pending := true } := by
  simp only [absorbAadBlock, Work.onArch_arch, xorState_arch, permuteIfPending_arch]
  rfl
@[simp] theorem absorbAadBlock_operand (C : Cfg) (b : List Byte) (x : Work) :
    (absorbAadBlock C b x).operand = x.operand := by simp [absorbAadBlock]
@[simp] theorem absorbAadBlock_out (C : Cfg) (b : List Byte) (x : Work) : (absorbAadBlock C b x).out = x.out := by
  simp [absorbAadBlock]
@[simp] theorem absorbAadBlock_calls (C : Cfg) (b : List Byte) (x : Work) :
    (absorbAadBlock C b x).calls =
      x.calls ++ if x.arch.pending then [{ site := .aadInt, mask := some .aadInt }] else [] := by
  simp [absorbAadBlock]

/-- `CloseAad` (R65). -/
@[simp] theorem closeAad_arch (C : Cfg) (x : Work) :
    (closeAad C x).arch =
      { x.arch with st := closedAadSt C x.arch.st x.arch.pending x.arch.abuf, abuf := [], pending := false } := by
  unfold closeAad closeAadBlock closedAadSt
  split
  · rfl
  · split
    · simp only [Work.onArch_arch, permuteAt_arch, xorState_arch, permuteIfPending_arch]; rfl
    · rfl
@[simp] theorem closeAad_operand (C : Cfg) (x : Work) : (closeAad C x).operand = x.operand := by
  unfold closeAad closeAadBlock; split <;> [skip; split] <;> simp
@[simp] theorem closeAad_out (C : Cfg) (x : Work) : (closeAad C x).out = x.out := by
  unfold closeAad closeAadBlock; split <;> [skip; split] <;> simp

/-- Where the AAD stream is open it is closed, else nothing happens (R81 to R83). -/
theorem closeAadIfOpen_arch (C : Cfg) (x : Work) :
    (closeAadIfOpen C x).arch =
      { x.arch with
        st := (messageStart C x.arch).1, pending := (messageStart C x.arch).2
        abuf := if x.arch.aadOpen then [] else x.arch.abuf } := by
  unfold closeAadIfOpen messageStart Arch.aadOpen
  cases h : x.arch.phase <;> simp
@[simp] theorem closeAadIfOpen_operand (C : Cfg) (x : Work) : (closeAadIfOpen C x).operand = x.operand := by
  unfold closeAadIfOpen; split <;> simp
@[simp] theorem closeAadIfOpen_out (C : Cfg) (x : Work) : (closeAadIfOpen C x).out = x.out := by
  unfold closeAadIfOpen; split <;> simp

/-- `AbsorbMsgBlock` (R67): output and architectural state. -/
@[simp] theorem absorbMsgBlock_output (C : Cfg) (b : List Byte) (x : Work) :
    (absorbMsgBlock C b x).1 =
      (duplexBytes x.arch.dir (deferred C .msgInt .msgInt x.arch.pending x.arch.st) b).2 := by
  simp [absorbMsgBlock, duplex]
@[simp] theorem absorbMsgBlock_arch (C : Cfg) (b : List Byte) (x : Work) :
    (absorbMsgBlock C b x).2.arch =
      { x.arch with
        st := (duplexBytes x.arch.dir (deferred C .msgInt .msgInt x.arch.pending x.arch.st) b).1, pending := true } := by
  simp only [absorbMsgBlock, duplex, Work.onArch_arch, permuteIfPending_arch]
  rfl
@[simp] theorem absorbMsgBlock_operand (C : Cfg) (b : List Byte) (x : Work) :
    (absorbMsgBlock C b x).2.operand = x.operand := by simp [absorbMsgBlock, duplex]
@[simp] theorem absorbMsgBlock_out (C : Cfg) (b : List Byte) (x : Work) : (absorbMsgBlock C b x).2.out = x.out := by
  simp [absorbMsgBlock, duplex]
@[simp] theorem absorbMsgBlock_calls (C : Cfg) (b : List Byte) (x : Work) :
    (absorbMsgBlock C b x).2.calls =
      x.calls ++ if x.arch.pending then [{ site := .msgInt, mask := some .msgInt }] else [] := by
  simp [absorbMsgBlock, duplex]

/-- `CloseMsg` (R68): output and architectural state. -/
theorem closeMsg_output (C : Cfg) (res : List Byte) (x : Work) :
    (closeMsg C res x).1 = (closedMsg C x.arch.dir (x.arch.st, x.arch.pending) res).2 := by
  unfold closeMsg closeMsgBlock closedMsg
  split
  · simp_all
  · split <;> simp_all [duplex]
theorem closeMsg_arch (C : Cfg) (res : List Byte) (x : Work) :
    (closeMsg C res x).2.arch =
      { x.arch with st := (closedMsg C x.arch.dir (x.arch.st, x.arch.pending) res).1, pending := false } := by
  unfold closeMsg closeMsgBlock closedMsg
  split
  · simp_all; rfl
  · split
    · simp_all [duplex]; rfl
    · simp_all; rfl
@[simp] theorem closeMsg_operand (C : Cfg) (res : List Byte) (x : Work) :
    (closeMsg C res x).2.operand = x.operand := by
  unfold closeMsg closeMsgBlock duplex; split <;> [skip; split] <;> simp
@[simp] theorem closeMsg_out (C : Cfg) (res : List Byte) (x : Work) : (closeMsg C res x).2.out = x.out := by
  unfold closeMsg closeMsgBlock duplex; split <;> [skip; split] <;> simp

/-- `DeriveTag` (R69): the tag and the architectural state. -/
theorem deriveTag_arch (C : Cfg) (x : Work) :
    (deriveTag C x).2.arch = x.arch.setSt (tagSt C x.arch.key x.arch.st) := by
  unfold deriveTag injectKey tagSt
  cases C.keyInject <;> simp <;> rfl
theorem deriveTag_tag (C : Cfg) (x : Work) : (deriveTag C x).1 = tagOf C x.arch.key x.arch.st := by
  unfold tagOf
  rw [← Arch.setSt_st (tagSt C x.arch.key x.arch.st) x.arch, ← deriveTag_arch]
  rfl
@[simp] theorem deriveTag_operand (C : Cfg) (x : Work) : (deriveTag C x).2.operand = x.operand := by
  unfold deriveTag injectKey; split <;> split <;> simp
@[simp] theorem deriveTag_out (C : Cfg) (x : Work) : (deriveTag C x).2.out = x.out := by
  unfold deriveTag injectKey; split <;> split <;> simp
@[simp] theorem deriveTag_calls (C : Cfg) (x : Work) :
    (deriveTag C x).2.calls = x.calls ++ [{ site := .fin, mask := none }] := by
  unfold deriveTag injectKey; split <;> split <;> simp

end Sys2Proof.Machine
end

