-- ==== Sys2Proof/Laws/Ops.lean ====
section
/-! SUPPORT. What the shared operations can do, said once: delivery, the run of a command, and exec as the run of its rule. -/

namespace Sys2Proof.Machine

@[simp] theorem accepts_none (m : Nat) : accepts none m = true := rfl

@[simp] theorem accepts_zero (room : Option Nat) : accepts room 0 = true := by
  cases room <;> simp [accepts]

/-- A host that accepts `m` bytes accepts fewer. -/
theorem accepts_mono {room : Option Nat} {m q : Nat} (h : accepts room m = true) (le : q ≤ m) : accepts room q = true := by
  cases room with
  | none => rfl
  | some p => simp only [accepts, decide_eq_true_eq] at h ⊢; exact Nat.le_trans le h

/-- Delivery answers a next state exactly if the host accepts the output, and then this one. -/
theorem deliver_next {a : Arch} {out : List Byte} {s t : State} :
    deliver a out s = .next t ↔ accepts s.room out.length = true ∧ t = s.complete a out := by
  unfold deliver
  split
  · exact ⟨fun h => ⟨‹_›, (Host.Outcome.next.inj h).symm⟩, fun h => congrArg _ h.2.symm⟩
  · exact ⟨fun h => (nomatch h), fun h => absurd h.1 ‹_›⟩

/-- Where the host accepts the output, delivery completes the command. -/
theorem deliver_of_accepts {a : Arch} {out : List Byte} {s : State} (h : accepts s.room out.length = true) :
    deliver a out s = .next (s.complete a out) := deliver_next.2 ⟨h, rfl⟩

/-- A completed command, in one record. -/
theorem complete_eq_done (s : State) (need : Nat) (a : Arch) (out : List Byte) :
    State.complete a out { s with din := s.din.drop need } = s.done need a out := rfl

/-- Everything a command run can do when it answers a next state: the operand was there, the host accepted the output, and the
next state is the completed one. -/
theorem runCommand_next {need : Nat} {rule : Work → Work} {s t : State} :
    runCommand need rule s = .next t ↔
      need ≤ s.din.length ∧
      accepts s.room (rule (Work.start s.arch (s.din.take need))).out.length = true ∧
      t = s.done need (rule (Work.start s.arch (s.din.take need))).arch
            (rule (Work.start s.arch (s.din.take need))).out := by
  unfold runCommand
  split
  · simp [deliver_next, *, complete_eq_done]
  · simp [*]

/-- Where both duties are kept a command run completes. -/
theorem runCommand_completes {need : Nat} {rule : Work → Work} {s : State} (h : need ≤ s.din.length)
    (acc : accepts s.room (rule (Work.start s.arch (s.din.take need))).out.length = true) :
    runCommand need rule s =
      .next (s.done need (rule (Work.start s.arch (s.din.take need))).arch
        (rule (Work.start s.arch (s.din.take need))).out) :=
  runCommand_next.2 ⟨h, acc, rfl⟩

/-- exec runs the command's rule on the command's operand (R50, R55). -/
theorem exec_eq_runCommand (i : Instr) (s : State) : exec i s = runCommand i.oplen (i.rule s.cfg) s := by
  cases i <;> rfl

/-- Everything exec can do when it answers a next state. -/
theorem exec_next {i : Instr} {s t : State} :
    exec i s = .next t ↔
      i.oplen ≤ s.din.length ∧
      accepts s.room (i.rule s.cfg (Work.start s.arch (s.din.take i.oplen))).out.length = true ∧
      t = s.done i.oplen (i.rule s.cfg (Work.start s.arch (s.din.take i.oplen))).arch
            (i.rule s.cfg (Work.start s.arch (s.din.take i.oplen))).out := by
  rw [exec_eq_runCommand, runCommand_next]

/-- An illegal word always completes (R54). -/
theorem completeIllegal_eq (s : State) :
    completeIllegal s = .next (s.done 0 (s.arch.setStatus .illegalCommand 0) []) :=
  runCommand_completes (rule := illegalRule) (Nat.zero_le _) (accepts_zero _)

/-- A command whose output is empty is done without output. -/
theorem done_nil_room (s : State) (need : Nat) (a : Arch) : (s.done need a []).room = s.room := by
  cases h : s.room <;> simp [h]

end Sys2Proof.Machine
end

