-- ==== Sys2Proof/Laws/PerInstr.lean ====
section
/-! SUPPORT. A family of statements about every command as syntax: a well-formed command's operand is at most 65535 bytes
(30_encoding R51, R55). -/

namespace Sys2Proof.Laws.OperandLength

/-- A well-formed command takes at most 65535 operand bytes. -/
def Statement (i : Instr) : Prop := i.wellFormed = true → i.oplen ≤ 65535

theorem initEnc (klen nlen : Nat) : Statement (.initEnc klen nlen) := by
  intro h; simp only [Instr.wellFormed, Bool.and_eq_true, decide_eq_true_eq] at h; simp only [Instr.oplen]; omega

theorem initDec (klen nlen : Nat) : Statement (.initDec klen nlen) := by
  intro h; simp only [Instr.wellFormed, Bool.and_eq_true, decide_eq_true_eq] at h; simp only [Instr.oplen]; omega

theorem aad (ilen : Nat) : Statement (.aad ilen) := by
  intro h; simp only [Instr.wellFormed, decide_eq_true_eq] at h; simp only [Instr.oplen]; omega

theorem data (ilen ocap : Nat) : Statement (.data ilen ocap) := by
  intro h; simp only [Instr.wellFormed, Bool.and_eq_true, decide_eq_true_eq] at h; simp only [Instr.oplen]; omega

theorem final (ocap : Nat) : Statement (.final ocap) := fun _ => Nat.zero_le _

theorem reset : Statement .reset := fun _ => Nat.zero_le _

theorem clear : Statement .clear := fun _ => Nat.zero_le _

end Sys2Proof.Laws.OperandLength
end

