-- ==== Sys2Proof/Tests/Slice0.lean ====
section
/-! SUPPORT. Tests and witnesses. Expected values are those of 95_test_vectors (named in each test), worked out there from the
rules, or written out by hand from the field table of 30_encoding R51. Each `witness_<Name>` shows concrete states and operands
that meet the hypotheses of `Obligations.<Name>`. -/

namespace Sys2Proof.Tests

open Sys2Proof.Machine

/-! ### Encodings written out from R51 (words of 95_test_vectors) -/

/-- OP = 1, DIR = 1, KLEN = 8, NLEN = 4 (V-I1). -/
theorem test_decode_initEnc : decode 0x0000000004080011 = .ok (.initEnc 8 4) := by decide
/-- OP = 1, DIR = 0, KLEN = 8, NLEN = 4 (V-I3). -/
theorem test_decode_initDec : decode 0x0000000004080001 = .ok (.initDec 8 4) := by decide
/-- OP = 2, ILEN = 5 (V-A1). -/
theorem test_decode_aad : decode 0x0000000000050002 = .ok (.aad 5) := by decide
/-- OP = 3, ILEN = 5, OCAP = 3 (V-D2). -/
theorem test_decode_data : decode 0x0000000300050003 = .ok (.data 5 3) := by decide
/-- OP = 4, OCAP = 0xFFFF (V-F1). -/
theorem test_decode_final : decode 0x0000FFFF00000004 = .ok (.final 65535) := by decide
/-- OP = 5 (V-R1). -/
theorem test_decode_reset : decode 0x0000000000000005 = .ok .reset := by decide
/-- OP = 6 (V-E1). -/
theorem test_decode_clear : decode 0x0000000000000006 = .ok .clear := by decide
/-- The twelve illegal words of 95 section 8, V-X1 to V-X12, each with the check of R54 it fails. -/
theorem test_decode_illegal :
    [0x0000000000000000, 0x0000000000000007, 0x000000000000000F, 0x0000000000050022, 0x0001000004080011,
      0x0000000104080011, 0x0000000000050012, 0x0000FFFF00010004, 0x0000000100000005, 0x0000000000000016,
      0x8000FFFF00050003, 0x0000000000000014].map (fun w : CmdWord => decode w) =
    [.reservedOpcode, .reservedOpcode, .reservedOpcode, .reservedBits, .reservedBits, .reservedField, .dirBit,
      .reservedField, .reservedField, .dirBit, .reservedBits, .dirBit].map Except.error := by decide
/-- The table's numbering of a word. -/
theorem test_decodeTableWord : decodeTableWord 64 0x0000FFFF00050003 = some (.data 5 65535) ∧
    decodeTableWord 64 0x0000000000000009 = none := by decide
/-- Encoding at the ends of the fields. -/
theorem test_encode : encode (.initEnc 255 255) = 0xFFFF0011 ∧ encode (.data 65535 65535) = 0xFFFFFFFF0003 := by decide

/-! ### Smoke tests: an ill-formed term for each check -/

theorem test_wellFormed_refuses :
    [Instr.initEnc 256 4, .initEnc 8 256, .initDec 256 4, .initDec 8 256, .aad 65536, .data 65536 0, .data 0 65536,
      .final 65536].map Instr.wellFormed = [false, false, false, false, false, false, false, false] := by decide
theorem test_wellFormed_accepts :
    [Instr.initEnc 255 255, .initDec 0 0, .aad 65535, .data 65535 65535, .final 65535, .reset, .clear].all
      Instr.wellFormed = true := by decide
/-- R13, one broken clause each (each configuration is `Cfg.narrowest` with one field changed). -/
theorem test_config_refuses :
    [{ Cfg.narrowest with r := 0 }, { Cfg.narrowest with r := 2 }, { Cfg.narrowest with t := 0 },
      { Cfg.narrowest with keyOffset := 2 }, { Cfg.narrowest with tagOffset := 2 },
      { Cfg.narrowest with padMarker := 0 }, { Cfg.narrowest with dsMsgInt := ⟨[0, 1], rfl⟩ }].map Cfg.flaws =
    [[.rateZero], [.noCapacity], [.tagLength], [.keyOutsideState], [.tagOutsideState], [.padMarkerZero],
      [.interiorMask]] := by decide
/-- A configuration with the given widths and nothing in it, for the clauses on widths. -/
def widths (S k n : Nat) : Cfg where
  S := S
  r := 1
  t := 1
  k := k
  n := n
  permute := fun _ x => x
  rounds := fun _ => 0
  initLoad := fun _ _ => Bytes.fit S []
  initPost := fun _ => Bytes.fit S []
  dsAadInt := Bytes.fit S []
  dsAadLast := Bytes.fit S []
  dsAadLastFull := Bytes.fit S []
  dsNoAad := Bytes.fit S []
  dsMsgInt := Bytes.fit S []
  dsMsgLast := Bytes.fit S []
  dsMsgLastFull := Bytes.fit S []
  dsEmptyMsg := Bytes.fit S []
  perBlockDs := true
  padMarker := 1
  fullPolicy := .extraBlock
  keyInject := .before
  keyOffset := 0
  tagOffset := 0
  variantId := 0
theorem test_config_refuses_widths :
    [widths 256 1 1, widths 2 0 1, widths 2 1 0, widths 2 1 256].map Cfg.flaws =
    [[.stateTooWide], [.keyLength], [.nonceLength], [.nonceLength]] := by decide
/-- TOY-A and TOY-B pass R13 (95 section 2). -/
theorem test_toy_wellFormed : toyA.wellFormed = true ∧ toyB.wellFormed = true := by decide

/-! ### The procedures on their vectors -/

/-- V-P1: `PERMUTE(INIT, 0^16)`. -/
theorem test_toyPerm_init : toyPerm .init (zeroBytes 16) =
    [0x89, 0xE3, 0x0A, 0x3B, 0xBE, 0xC0, 0x28, 0xC9, 0xC8, 0xC4, 0x1D, 0xA1, 0xCF, 0xED, 0x92, 0xE7] := by
  decide +kernel
/-- V-P5. -/
theorem test_pad : pad toyA [] = [0x80, 0, 0, 0] ∧ pad toyA [0xAB] = [0xAB, 0x80, 0, 0] ∧
    pad toyA [0xAB, 0xCD, 0xEF] = [0xAB, 0xCD, 0xEF, 0x80] := by decide
/-- V-P6. -/
theorem test_duplex :
    duplexBytes true [0x10, 0x20, 0x30, 0x40, 0x50] [1, 2, 3, 4] =
      ([0x11, 0x22, 0x33, 0x44, 0x50], [0x11, 0x22, 0x33, 0x44]) ∧
    duplexBytes false [0x10, 0x20, 0x30, 0x40, 0x50] [0x11, 0x22, 0x33, 0x44] =
      ([0x11, 0x22, 0x33, 0x44, 0x50], [1, 2, 3, 4]) := by decide
/-- V-P7, first and third row. -/
theorem test_tagEqual : tagEqual [0, 0x11, 0x77] [0, 0x11, 0x77] = true ∧ tagEqual [0, 0x11, 0x77] [0, 0x11, 0x76] = false := by
  decide
/-- V-P8. -/
theorem test_dataBlocks :
    [dataBlocks toyA true 0 3, dataBlocks toyA true 3 6, dataBlocks toyA true 2 13, dataBlocks toyA false 0 11,
      dataBlocks toyA false 0 12, dataBlocks toyA false 11 1, dataBlocks toyA false 3 0, dataBlocks toyA false 8 8] =
    [0, 2, 3, 0, 1, 1, 0, 2] := by decide

/-! ### States of the vectors -/

/-- The key of 95 section 0. -/
def key8 : List Byte := [0, 1, 2, 3, 4, 5, 6, 7]
/-- The nonce of 95 section 0. -/
def nonce4 : List Byte := [0xA0, 0xA1, 0xA2, 0xA3]
/-- `st` of V-I1. -/
def stInit : List Byte :=
  [0x0B, 0xCE, 0xD7, 0xD1, 0x12, 0x18, 0xF2, 0x6D, 0xC1, 0x81, 0x18, 0xB9, 0xE9, 0x72, 0x7A, 0x82]
/-- `st` of V-D1. -/
def stData : List Byte :=
  [0x7F, 0x94, 0x3E, 0x46, 0xA3, 0x79, 0x09, 0xE5, 0x3F, 0x13, 0xF0, 0xD6, 0x62, 0x5B, 0x3B, 0xBD]
/-- The tag of V-F1. -/
def tagF1 : List Byte := [0x2F, 0x20, 0x5A, 0x9B, 0x09, 0x0B, 0xD9, 0x3D]

/-- TOY-A right after INIT (V-I1, V-I3), with the given input presented. -/
def initialized (dir : Bool) (din : List Byte) : State :=
  { State.resetOf .toyA with
    arch := { Arch.reset toyA with phase := .initialized, dir := dir, st := stInit, key := key8, nonce := nonce4 }
    din := din }
/-- TOY-A after V-A1: `abuf = 04`, one block pending. -/
def absorbing (dir : Bool) (din : List Byte) : State :=
  let s := initialized dir din
  { s with
    arch := { s.arch with
      phase := .absorbingAad, abuf := [4], pending := true
      st := [0x0B, 0xCF, 0xD5, 0xD2, 0x12, 0x18, 0xF2, 0x6D, 0xC1, 0x81, 0x18, 0xB9, 0xE9, 0x72, 0x7A, 0x82] } }
/-- TOY-A in PROCESSING with the `st` of V-D1 and V-D4 and the given message residue. -/
def processing (dir : Bool) (dbuf din : List Byte) : State :=
  let s := initialized dir din
  { s with arch := { s.arch with phase := .processing, st := stData, dbuf := dbuf, pending := true } }
/-- TOY-A in FINALIZED. -/
def finalized (dir : Bool) (din : List Byte) : State :=
  let s := initialized dir din
  { s with arch := { s.arch with phase := .finalized, st := stData, tag := some tagF1 } }
/-- A state with one word presented. -/
def presenting (w : CmdWord) (s : State) : State := { s with cmdq := [w] }

/-- A property of the next state, if there is one. -/
def nextIs (o : Host.Outcome State Fault Refusal) (p : State → Bool) : Bool :=
  match o with
  | .next t => p t
  | .fault _ => false
  | .refused _ => false

theorem exists_next {o : Host.Outcome State Fault Refusal} {p : State → Bool} (h : nextIs o p = true) :
    ∃ t, o = .next t ∧ p t = true := by
  cases o with
  | next t => exact ⟨t, rfl, h⟩
  | fault _ => exact nomatch h
  | refused _ => exact nomatch h

/-! ### One step per test -/

/-- V-I1: the state INIT.ENC leaves. -/
theorem test_initEnc : nextIs (step (presenting 0x0000000004080011 { State.resetOf .toyA with din := key8 ++ nonce4 }))
    (fun t => t.arch.st == stInit && readPort t 0 == 0x00000009) = true := by decide +kernel
/-- V-I6: both lengths wrong. -/
theorem test_initEnc_lengths :
    nextIs (step (presenting 0x0000000005070011 (processing true [0x6F] (List.replicate 12 1))))
      (fun t => t.arch == { Arch.reset toyA with err := .invalidKeyLength } && readPort t 0 == 0x00000100) = true := by
  decide +kernel
/-- V-I3: DIR = 0. -/
theorem test_initDec : nextIs (step (presenting 0x0000000004080001 { State.resetOf .toyA with din := key8 ++ nonce4 }))
    (fun t => t.arch.st == stInit && readPort t 0 == 0x00000001) = true := by decide +kernel
/-- V-I5 with DIR = 0: a wrong nonce length. -/
theorem test_initDec_nonce : nextIs (step (presenting 0x0000000005080001 { State.resetOf .toyA with din := key8 ++ [1, 2, 3, 4, 5] }))
    (fun t => readPort t 0 == 0x00000200) = true := by decide +kernel
/-- V-A1: one block absorbed, its permutation deferred. -/
theorem test_aad : nextIs (step (presenting 0x0000000000050002 (initialized true [0, 1, 2, 3, 4])))
    (fun t => t.arch == { (absorbing true []).arch with olen := 0 } && readPort t 0 == 0x0000000A) = true := by
  decide +kernel
/-- V-A6: AAD after DATA. -/
theorem test_aad_sequence : nextIs (step (presenting 0x0000000000010002 (processing true [0x48, 0x65, 0x6C] [5])))
    (fun t => readPort t 0 == 0x0000030B && t.arch.st == stData && t.din == []) = true := by decide +kernel
/-- V-D1: DATA closes the AAD stream and emits one block. -/
theorem test_data : nextIs (step (presenting 0x0000FFFF00050003 (absorbing true [0x48, 0x65, 0x6C, 0x6C, 0x6F])))
    (fun t => t.dout == [0x7F, 0x94, 0x3E, 0x46] && t.arch.st == stData && t.arch.dbuf == [0x6F] && t.arch.pending
      && readPort t 0 == 0x0004000B) = true := by decide +kernel
/-- V-D2: OCAP = 3, nothing changes but STATUS. -/
theorem test_data_short : nextIs (step (presenting 0x0000000300050003 (absorbing true [0x48, 0x65, 0x6C, 0x6C, 0x6F])))
    (fun t => t.arch == { (absorbing true []).arch with err := .bufferTooShort } && readPort t 0 == 0x0000050A) = true := by
  decide +kernel
/-- V-F1: the residue byte, then the tag. -/
theorem test_final_encrypt : nextIs (step (presenting 0x0000FFFF00000004 (processing true [0x6F] [])))
    (fun t => t.dout == 0xC8 :: tagF1 && t.arch.tag == some tagF1 && readPort t 0 == 0x0009000C) = true := by
  decide +kernel
/-- V-F3: the last tag bit flipped. -/
theorem test_final_decrypt :
    nextIs (step (presenting 0x0000FFFF00000004
      (processing false [0xC8, 0x2F, 0x20, 0x5A, 0x9B, 0x09, 0x0B, 0xD9, 0x3C] [])))
      (fun t => t.dout == [] && t.arch.tag == some tagF1 && readPort t 0 == 0x00000604) = true := by decide +kernel
/-- V-R1: RESET gives the state of V-I1 back. -/
theorem test_reset : nextIs (step (presenting 0x0000000000000005 (finalized true [])))
    (fun t => t.arch == (initialized true []).arch && readPort t 0 == 0x00000009) = true := by decide +kernel
/-- V-R2: RESET before any INIT. -/
theorem test_reset_uninitialized : nextIs (step (presenting 0x0000000000000005 (State.resetOf .toyA)))
    (fun t => readPort t 0 == 0x00000400) = true := by decide +kernel
/-- V-E2: CLEAR in PROCESSING. -/
theorem test_clear : nextIs (step (presenting 0x0000000000000006 (processing true [1] [])))
    (fun t => t.arch == Arch.reset toyA && readPort t 0 == 0) = true := by decide +kernel
/-- V-X13: an illegal word in the middle of a session. -/
theorem test_illegal : nextIs (step (presenting 0x0000000000050022 (absorbing true [9])))
    (fun t => t.arch == { (absorbing true []).arch with err := .illegalCommand } && t.din == [9]
      && readPort t 0 == 0x0000070A) = true := by decide +kernel
/-- The PARAM registers of TOY-A and TOY-B (95 section 2). -/
theorem test_params : readPort (State.resetOf .toyA) 1 = 0x08081004 ∧ readPort (State.resetOf .toyA) 2 = 0xA1000104 ∧
    readPort (State.resetOf .toyB) 2 = 0xB2000604 := by decide
/-- From reset, on the device itself, a word put on the port is the next command run. -/
theorem test_withFetchWord : nextIs (step (State.reset.withFetchWord 64 0x0000000000050002))
    (fun t => t.arch.err == .notInitialized && t.din == [] && t.cmdq == []) = true := by decide +kernel
/-- R59: what ENCRYPT expands to, and one line's word. -/
theorem test_asm : encryptLines key8 nonce4 [] [1] = [.initEnc key8 nonce4, .data [1] none, .final none] ∧
    (Asm.data [0x48] (some 3)).assemble = 0x0000000300010003 ∧ Asm.text (.data [0xA5] (some 3)) = "DATA x\"A5\", ocap=3" := by
  decide +kernel

end Sys2Proof.Tests
end

