-- ==== Sys2Proof/Tests/Witnesses.lean ====
section
/-! SUPPORT. For every statement with hypotheses, concrete states and operands that meet them together, clause by clause, at the
ends of the ranges where a clause has a range. -/

namespace Sys2Proof.Tests

open Sys2Proof.Machine

/-! ### The states of Tests/Slice0.lean keep the invariant -/

theorem inv_resetOf_toyA : (State.resetOf .toyA).Inv :=
  ⟨⟨⟨rfl, rfl, rfl, fun _ h => (nomatch h)⟩, ⟨rfl, rfl, rfl, rfl, rfl, rfl, rfl, rfl⟩⟩, rfl⟩

theorem inv_initialized (dir : Bool) (din : List Byte) : (initialized dir din).Inv :=
  ⟨⟨⟨rfl, rfl, rfl, fun _ h => (nomatch h)⟩, ⟨rfl, rfl, rfl, rfl⟩⟩, rfl⟩

theorem inv_absorbing (dir : Bool) (din : List Byte) : (absorbing dir din).Inv :=
  ⟨⟨⟨rfl, rfl, rfl, fun _ h => (nomatch h)⟩, ⟨by show 1 ≤ 3; decide, rfl, rfl⟩⟩, rfl⟩

theorem inv_processing_enc (dbuf din : List Byte) (h : dbuf.length ≤ 3) : (processing true dbuf din).Inv :=
  ⟨⟨⟨rfl, rfl, rfl, fun _ h => (nomatch h)⟩, ⟨rfl, h, rfl⟩⟩, rfl⟩

theorem inv_processing_dec (dbuf din : List Byte) (h : dbuf.length ≤ 11) : (processing false dbuf din).Inv :=
  ⟨⟨⟨rfl, rfl, rfl, fun _ h => (nomatch h)⟩, ⟨rfl, h, rfl⟩⟩, rfl⟩

theorem inv_finalized (dir : Bool) (din : List Byte) : (finalized dir din).Inv :=
  ⟨⟨⟨rfl, rfl, rfl, fun _ h => by cases h; rfl⟩, ⟨rfl, rfl, rfl⟩⟩, rfl⟩

/-- An AAD of five bytes in flight, `m` of them taken, and the bytes still presented. -/
def inFlight (m : Nat) : State :=
  { initialized true ([0, 1, 2, 3, 4].drop m) with
    busy := true, flight := .operand 0x0000000000050002 ([0, 1, 2, 3, 4].take m) }

theorem inv_inFlight : ∀ m ≤ 5, (inFlight m).Inv := by
  intro m hm
  refine ⟨(inv_initialized true []).1, rfl, ?_⟩
  rw [show wordOplen 0x0000000000050002 = 5 by decide]
  simp only [List.length_take]
  omega

/-- A command in its output step, two bytes left. -/
def emitting : State :=
  { initialized true [] with
    busy := true, flight := .output [7, 8] (processing true [] []).arch }

theorem inv_emitting : emitting.Inv :=
  ⟨(inv_initialized true []).1, rfl, by decide, (inv_processing_enc [] [] (by decide)).1⟩

/-- An edge at which everything is willing to move. -/
def eager : Edge := ⟨true, true, true, true⟩

/-! ### Witnesses -/

theorem witness_ConfigurationAdmittedIffWellFormed :
    { Cfg.narrowest with padMarker := 0 }.wellFormed = false ∧ toyA.wellFormed = true := by decide

theorem witness_DecodedCommandIsWellFormed : decode 0x00000000FFFF0011 = .ok (.initEnc 255 255) := by decide

theorem witness_DecodeEncodeAgree :
    (Instr.initEnc 255 0).wellFormed = true ∧ (Instr.data 65535 65535).wellFormed = true := by decide

theorem witness_EncodeDecodeAgree : decode 0x0000FFFFFFFF0003 = .ok (.data 65535 65535) := by decide

theorem witness_OperandTakenInFull :
    decode 0x00000000FF000011 = .ok (.initEnc 0 255) ∧ decode 0x0000000000FF0001 = .ok (.initDec 255 0) ∧
    decode 0x00000000FFFF0002 = .ok (.aad 65535) ∧ decode 0x0000000000000003 = .ok (.data 0 0) ∧
    decode 0x0000FFFF00000004 = .ok (.final 65535) ∧ decode 0x0000000000000005 = .ok .reset ∧
    decode 0x0000000000000006 = .ok .clear ∧ decode 0x0000000000000009 = .error .reservedOpcode ∧
    ∃ t, exec (.aad 5) (initialized true [0, 1, 2, 3, 4]) = .next t ∧ t.arch.phase == .absorbingAad :=
  ⟨by decide, by decide, by decide, by decide, by decide, by decide, by decide, by decide,
    exists_next (by decide +kernel)⟩

theorem witness_AssembledLinesDecode :
    (List.replicate 255 (0 : Byte)).length < 256 ∧ key8.length < 65536 ∧ (65535 : Nat) < 65536 :=
  ⟨by rw [List.length_replicate]; decide, by decide, by decide⟩

theorem witness_ResetValues : State.resetOf .toyB = State.reset ∨ ∃ v : Variant, State.resetOf .toyB = State.resetOf v :=
  .inr ⟨.toyB, rfl⟩

theorem witness_HardwareResetAborts : { inFlight 2 with rstN := false }.rstN = false := rfl

theorem witness_ReadPortHidesSecrets :
    let s := initialized true []
    let s' := { s with arch := { s.arch with st := zeroBytes 16, key := zeroBytes 8, dbuf := [1] }, din := [3] }
    s.variant = s'.variant ∧ s.arch.phase = s'.arch.phase ∧ s.arch.dir = s'.arch.dir ∧ s.arch.err = s'.arch.err ∧
    s.arch.olen = s'.arch.olen ∧ s.busy = s'.busy ∧ s ≠ s' := by decide

theorem witness_StatusHeldWhileBusy :
    (inFlight 2).rstN = true ∧ (inFlight 2).Inv ∧ (clockEdge eager (inFlight 2)).busy = true :=
  ⟨rfl, inv_inFlight 2 (by decide), by decide⟩

theorem witness_StreamsMoveOnHandshake :
    (inFlight 2).rstN = true ∧ (inFlight 2).Inv ∧ (clockEdge eager (inFlight 2)).din ≠ (inFlight 2).din ∧
    emitting.rstN = true ∧ emitting.Inv ∧ (clockEdge eager emitting).dout ≠ emitting.dout ∧
    (clockEdge eager (presenting 5 (initialized true []))).cmdq ≠ (presenting 5 (initialized true [])).cmdq :=
  ⟨rfl, inv_inFlight 2 (by decide), by decide, rfl, inv_emitting, by decide, by decide⟩

theorem witness_StepKeepsInvariant :
    (presenting 0x0000FFFF00000004 (processing true [0x6F] [])).Inv ∧
    ∃ t, step (presenting 0x0000FFFF00000004 (processing true [0x6F] [])) = .next t ∧ t.arch.phase == .finalized :=
  ⟨inv_processing_enc [0x6F] [] (by decide), exists_next (by decide +kernel)⟩

theorem witness_ClockEdgeKeepsInvariant : (inFlight 5).Inv ∧ emitting.Inv :=
  ⟨inv_inFlight 5 (by decide), inv_emitting⟩

theorem witness_InitializedHoldsInitialState :
    (initialized true []).arch.st = initialSt toyA key8 nonce4 ∧
    ∃ t, exec .reset (finalized true []) = .next t ∧ t.arch.phase == .initialized :=
  ⟨by decide +kernel, exists_next (by decide +kernel)⟩

theorem witness_StepRunsDecodedCommand :
    (let s := presenting 0x0000000000050002 (initialized true [0, 1, 2, 3, 4])
     s.rstN = true ∧ s.flight = .idle ∧ s.cmdq = [0x0000000000050002] ∧ decode 0x0000000000050002 = .ok (.aad 5)) ∧
    ((inFlight 2).rstN = true ∧ (inFlight 2).flight = .operand 0x0000000000050002 [0, 1]) ∧
    ((initialized true []).rstN = true ∧ (initialized true []).flight = .idle ∧ (initialized true []).cmdq = []) ∧
    { inFlight 2 with rstN := false }.rstN = false := by
  decide

theorem witness_IllegalWordChangesOnlyStatus :
    (presenting 0x16 (absorbing true [1])).rstN = true ∧ (presenting 0x16 (absorbing true [1])).flight = .idle ∧
    (presenting 0x16 (absorbing true [1])).cmdq = [0x16] ∧ decode 0x16 = .error .dirBit := by decide

/-- Whether an outcome is the fault `f`. -/
def faultIs (f : Fault) : Host.Outcome State Fault Refusal → Bool
  | .fault g => g == f
  | _ => false

theorem eq_fault {f : Fault} {o : Host.Outcome State Fault Refusal} (h : faultIs f o = true) : o = .fault f := by
  cases o <;> simp_all [faultIs]

theorem witness_StuckOnlyByBrokenDuty :
    exec (.aad 5) (initialized true [0, 1, 2, 3]) = .fault .operandStarved ∧
    exec (.final 9) { processing true [0x6F] [] with room := some 8 } = .fault .outputBlocked ∧
    (initialized true [0, 1, 2, 3, 4]).Supplies 5 ∧ (initialized true [0, 1, 2, 3, 4]).AcceptsAll :=
  ⟨eq_fault (by decide +kernel), eq_fault (by decide +kernel), by decide, rfl⟩

theorem witness_LifecycleRefinesStep :
    ((inFlight 4).rstN = true ∧ (inFlight 4).Inv ∧ (clockEdge eager (inFlight 4)).flight ≠ .idle) ∧
    ((inFlight 5).Inv ∧ (inFlight 5).flight ≠ .idle ∧ (clockEdge eager (inFlight 5)).flight = .idle) :=
  ⟨⟨rfl, inv_inFlight 4 (by decide), by decide⟩, inv_inFlight 5 (by decide), by decide, by decide +kernel⟩

theorem witness_LifecycleCompletes :
    let s := presenting 0x0000FFFF00000004 (processing true [0x6F] [])
    s.rstN = true ∧ s.Inv ∧ s.flight = .idle ∧ s.cmdq = [0x0000FFFF00000004] ∧
    ∃ t, step s = .next t ∧ t.dout.length == 9 :=
  ⟨rfl, inv_processing_enc [0x6F] [] (by decide), rfl, rfl, exists_next (by decide +kernel)⟩

theorem witness_InitStartsSession : { State.resetOf .toyA with din := key8 ++ nonce4 }.Supplies (toyA.k + toyA.n) := by
  decide

theorem witness_InitLengthErrorsZeroise :
    (processing true [] (key8 ++ nonce4)).Supplies (8 + 3) ∧ ¬(8 = toyA.k ∧ 3 = toyA.n) ∧
    (processing true [] (key8 ++ nonce4)).Supplies (7 + 5) ∧ ¬(7 = toyA.k ∧ 5 = toyA.n) ∧
    (State.resetOf .toyA).Supplies (0 + 0) ∧ ¬(0 = toyA.k ∧ 0 = toyA.n) := by decide

theorem witness_ResetRestartsSession :
    (finalized true []).arch.phase ≠ .uninitialized ∧ (State.resetOf .toyA).arch.phase = .uninitialized := by decide

theorem witness_ClearZeroises :
    (∀ a b, Instr.data 0 5 ≠ .initEnc a b) ∧ (∀ a b, Instr.data 0 5 ≠ .initDec a b) ∧ Instr.data 0 5 ≠ .clear ∧
    ((processing true [1] []).done 0 (Arch.reset toyA) []).Supplies (Instr.data 0 5).oplen :=
  ⟨fun _ _ h => (nomatch h), fun _ _ h => (nomatch h), fun h => (nomatch h), by decide⟩

theorem witness_AadAbsorbsBlocks :
    (initialized true []).arch.aadOpen = true ∧ (initialized true []).Supplies 0 ∧
    (absorbing true [5, 6, 7]).arch.aadOpen = true ∧ (absorbing true [5, 6, 7]).Supplies 3 := by decide

theorem witness_DataTransformsBlocks :
    ((absorbing true [1, 2, 3, 4]).arch.aadOpen = true ∧ (absorbing true [1, 2, 3, 4]).Supplies 4 ∧
      toyA.r * dataBlocks toyA true 0 4 ≤ 4 ∧ accepts (some 4) (toyA.r * dataBlocks toyA true 0 4) = true) ∧
    ((processing false tagF1 [1, 2, 3]).arch.phase = .processing ∧ (processing false tagF1 [1, 2, 3]).Supplies 3 ∧
      toyA.r * dataBlocks toyA false 8 3 ≤ 0) := by decide

theorem witness_FinalEncryptEmitsTag :
    (processing true [0x6F] []).arch.phase = .processing ∧ (processing true [0x6F] []).arch.dir = true ∧
    (processing true [0x6F] []).arch.dbuf.length + toyA.t ≤ 9 ∧
    accepts (some 9) ((processing true [0x6F] []).arch.dbuf.length + toyA.t) = true ∧
    (initialized true []).arch.aadOpen = true ∧ (initialized true []).arch.dir = true := by decide

/-- The residue of V-D4: one ciphertext byte and the tag. -/
def residueF2 : List Byte := 0xC8 :: tagF1

theorem witness_FinalDecryptReleases :
    let s := processing false residueF2 []
    let m := closedMsg toyA false (messageStart toyA s.arch) (s.arch.dbuf.take (s.arch.dbuf.length - toyA.t))
    s.arch.phase = .processing ∧ s.arch.dir = false ∧ toyA.t ≤ s.arch.dbuf.length ∧
    s.arch.dbuf.length - toyA.t ≤ 1 ∧ accepts (some 1) (s.arch.dbuf.length - toyA.t) = true ∧
    tagOf toyA s.arch.key m.1 = s.arch.dbuf.drop (s.arch.dbuf.length - toyA.t) := by decide +kernel

theorem witness_FinalDecryptRejects :
    let s := processing false (0xC8 :: 0x2E :: tagF1.drop 1) []
    let m := closedMsg toyA false (messageStart toyA s.arch) (s.arch.dbuf.take (s.arch.dbuf.length - toyA.t))
    s.arch.phase = .processing ∧ s.arch.dir = false ∧ toyA.t ≤ s.arch.dbuf.length ∧
    s.arch.dbuf.length - toyA.t ≤ 1 ∧
    tagOf toyA s.arch.key m.1 ≠ s.arch.dbuf.drop (s.arch.dbuf.length - toyA.t) := by decide +kernel

theorem witness_FinalDecryptShortInput :
    (initialized false []).arch.aadOpen = true ∧ (initialized false []).arch.dir = false ∧
    (initialized false []).arch.dbuf.length < toyA.t ∧ (processing false (tagF1.drop 1) []).arch.phase = .processing ∧
    (processing false (tagF1.drop 1) []).arch.dbuf.length < toyA.t := by decide

theorem witness_ErrorEffects :
    ((finalized true [1]).Inv ∧ ∃ t, exec (.aad 1) (finalized true [1]) = .next t ∧ t.arch.err == .protocolSequenceError) ∧
    ((State.resetOf .toyA).Inv ∧ ∃ t, exec .reset (State.resetOf .toyA) = .next t ∧ t.arch.err == .notInitialized) ∧
    ((processing true [1] []).Inv ∧ ∃ t, exec (.final 8) (processing true [1] []) = .next t ∧ t.arch.err == .bufferTooShort) ∧
    (∃ t, exec (.initEnc 0 0) (processing true [1] []) = .next t ∧ t.arch.err == .invalidKeyLength) ∧
    (∃ t, exec (.initDec 8 0) (processing true [1] key8) = .next t ∧ t.arch.err == .invalidNonceLength) ∧
    ((processing false (tagF1.drop 1) []).Inv ∧
      ∃ t, exec (.final 0) (processing false (tagF1.drop 1) []) = .next t ∧ t.arch.err == .authenticationFailure) ∧
    ((processing false (zeroBytes 8) []).Inv ∧
      ∃ t, exec (.final 0) (processing false (zeroBytes 8) []) = .next t ∧ t.arch.err == .authenticationFailure) :=
  ⟨⟨inv_finalized _ _, exists_next (by decide +kernel)⟩, ⟨inv_resetOf_toyA, exists_next (by decide +kernel)⟩,
    ⟨inv_processing_enc [1] [] (by decide), exists_next (by decide +kernel)⟩, exists_next (by decide +kernel),
    exists_next (by decide +kernel), ⟨inv_processing_dec _ [] (by decide), exists_next (by decide +kernel)⟩,
    ⟨inv_processing_dec _ [] (by decide), exists_next (by decide +kernel)⟩⟩

theorem witness_ErrorCauses :
    (∃ t, exec (.aad 1) (processing true [] [1]) = .next t ∧ t.arch.err == .protocolSequenceError) ∧
    (∃ t, exec (.initEnc 8 4) (finalized true (key8 ++ nonce4)) = .next t ∧ t.arch.err == .ok) ∧
    (∃ t, exec (.data 4 3) (processing true [] [1, 2, 3, 4]) = .next t ∧ t.arch.err == .bufferTooShort) ∧
    (∃ t, exec (.final 0) (processing false residueF2 []) = .next t ∧ t.arch.err == .bufferTooShort) ∧
    (∃ t, exec (.final 1) (processing false residueF2 []) = .next t ∧ t.arch.err == .ok) ∧
    (∃ t, exec .reset (State.resetOf .toyA) = .next t ∧ t.arch.err == .notInitialized) ∧
    (∃ t, exec .clear (State.resetOf .toyA) = .next t ∧ t.arch.err == .ok) :=
  ⟨exists_next (by decide +kernel), exists_next (by decide +kernel), exists_next (by decide +kernel),
    exists_next (by decide +kernel), exists_next (by decide +kernel), exists_next (by decide +kernel),
    exists_next (by decide +kernel)⟩

theorem witness_PhaseTable :
    ((initialized true [1]).Inv ∧ (absorbing false [1]).Inv ∧ (processing true [] []).Inv ∧ (finalized true [1]).Inv ∧
      (State.resetOf .toyA).Inv) ∧
    (∃ t, exec (.initEnc 8 4) (finalized true (key8 ++ nonce4)) = .next t ∧ t.arch.err == .ok) ∧
    (∃ t, exec (.aad 1) (absorbing false [1]) = .next t ∧ t.arch.err == .ok) ∧
    (∃ t, exec (.data 1 0) (absorbing false [1]) = .next t ∧ t.arch.err == .ok) ∧
    (∃ t, exec (.final 8) (processing true [] []) = .next t ∧ t.arch.err == .ok) ∧
    (∃ t, exec (.final 8) (initialized false []) = .next t ∧ t.arch.err == .authenticationFailure) ∧
    (∃ t, exec .reset (initialized true []) = .next t ∧ t.arch.err == .ok) ∧
    (∃ t, exec .clear (State.resetOf .toyA) = .next t ∧ t.arch.err == .ok) ∧
    (∃ t, step (presenting 0 (initialized true [])) = .next t ∧ t.arch.err == .illegalCommand) :=
  ⟨⟨inv_initialized _ _, inv_absorbing _ _, inv_processing_enc [] [] (by decide), inv_finalized _ _, inv_resetOf_toyA⟩,
    exists_next (by decide +kernel), exists_next (by decide +kernel), exists_next (by decide +kernel),
    exists_next (by decide +kernel), exists_next (by decide +kernel), exists_next (by decide +kernel),
    exists_next (by decide +kernel), exists_next (by decide +kernel)⟩

theorem witness_OutputLengths :
    ((processing true [1, 2, 3] [4]).Inv ∧
      ∃ t, exec (.data 1 4) (processing true [1, 2, 3] [4]) = .next t ∧ t.arch.err == .ok) ∧
    ((processing false (zeroBytes 11) [4]).Inv ∧
      ∃ t, exec (.data 1 4) (processing false (zeroBytes 11) [4]) = .next t ∧ t.arch.err == .ok) ∧
    ((processing false residueF2 []).Inv ∧
      ∃ t, exec (.final 1) (processing false residueF2 []) = .next t ∧ t.arch.err == .ok) :=
  ⟨⟨inv_processing_enc _ _ (by decide), exists_next (by decide +kernel)⟩,
    ⟨inv_processing_dec _ _ (by decide), exists_next (by decide +kernel)⟩,
    inv_processing_dec _ _ (by decide), exists_next (by decide +kernel)⟩

theorem witness_OlenIsOutputLength :
    (Instr.final 65535).wellFormed = true ∧
    ∃ t, exec (.final 65535) (processing true [0x6F] []) = .next t ∧ t.arch.olen == 9 :=
  ⟨by decide, exists_next (by decide +kernel)⟩

theorem witness_CommandsWriteOnlyTheirState :
    (∃ t, exec (.initEnc 8 4) (finalized true (key8 ++ nonce4)) = .next t ∧ t.arch.err == .ok) ∧
    (∃ t, exec (.aad 1) (absorbing false [1]) = .next t ∧ t.arch.err == .ok) ∧
    (∃ t, exec (.data 1 0) (absorbing false [1]) = .next t ∧ t.arch.err == .ok) ∧
    (∃ t, exec (.final 8) (processing true [] []) = .next t ∧ t.arch.err == .ok) ∧
    (∃ t, exec .reset (initialized true []) = .next t ∧ t.arch.err == .ok) :=
  ⟨exists_next (by decide +kernel), exists_next (by decide +kernel), exists_next (by decide +kernel),
    exists_next (by decide +kernel), exists_next (by decide +kernel)⟩

theorem witness_OneTagPerSession :
    ((processing true [] []).Inv ∧
      ∃ t, exec (.final 8) (processing true [] []) = .next t ∧ t.arch.tag != (processing true [] []).arch.tag) ∧
    ((finalized true []).Inv ∧
      ∃ t, exec .reset (finalized true []) = .next t ∧ t.arch.tag != (finalized true []).arch.tag) ∧
    ((finalized true []).arch.phase = .finalized ∧
      ∃ t, exec (.final 8) (finalized true []) = .next t ∧ t.arch.err == .protocolSequenceError) :=
  ⟨⟨inv_processing_enc _ _ (by decide), exists_next (by decide +kernel)⟩,
    ⟨inv_finalized _ _, exists_next (by decide +kernel)⟩, rfl, exists_next (by decide +kernel)⟩

theorem witness_PadFillsBlock :
    ([] : List Byte).length + 1 ≤ toyA.r ∧ [1, 2, 3].length + 1 ≤ toyA.r ∧ ([] : List Byte).length < 3 ∧ 3 < toyA.r := by
  decide

theorem witness_DuplexBytewise :
    key8.length ≤ stInit.length ∧ stInit[7]? = some 0x6D ∧ key8[7]? = some 7 ∧ key8.length ≤ 8 := by decide

theorem witness_DuplexDirectionsAgree : stInit.length ≤ stInit.length ∧ ([] : List Byte).length ≤ stInit.length := by
  decide

theorem witness_TagEqualIsEquality : tagF1.length = key8.length ∧ tagF1 ≠ key8 := by decide

theorem witness_MasksFollowSchedule :
    ⟨.aadLast, some .aadLast⟩ ∈ commandCalls toyA (.data 4 4) (absorbing true []).arch [1, 2, 3, 4] ∧
    ⟨.msgLast, some .msgLastFull⟩ ∈ commandCalls toyA (.final 8) (processing true [] []).arch [] := by decide +kernel

theorem witness_PublicInputsFixSchedule :
    let a := (processing true [1] []).arch
    let a' := { a with st := zeroBytes 16, key := zeroBytes 8, dbuf := [2] }
    a.publicView = a'.publicView ∧ a ≠ a' ∧ [1, 2].length = [3, 4].length := by decide

theorem witness_PublicInputsFixStatus :
    let s := processing true [1] []
    let s' := { s with arch := { s.arch with st := zeroBytes 16, key := zeroBytes 8, dbuf := [2] } }
    s.variant = s'.variant ∧ s.arch.publicView = s'.arch.publicView ∧ s.arch.Widths s.cfg ∧ s'.arch.Widths s'.cfg ∧
    s.arch.dir = true ∧ (∃ t, exec (.final 9) s = .next t ∧ t.arch.err == .ok) ∧
    (∃ t, exec (.final 9) s' = .next t ∧ t.arch.err == .ok) :=
  ⟨rfl, by decide, ⟨rfl, rfl, rfl, fun _ h => (nomatch h)⟩,
    ⟨rfl, rfl, rfl, fun _ h => (nomatch h)⟩, rfl, exists_next (by decide +kernel),
    exists_next (by decide +kernel)⟩

theorem witness_AadSplitInTwo :
    nextIs (exec (.aad 2) (initialized true [0, 1, 2, 3, 4])) (fun t => t.arch.err == .ok &&
      nextIs (exec (.aad 3) t) fun u => u.arch.err == .ok &&
        nextIs (exec (.aad (2 + 3)) (initialized true [0, 1, 2, 3, 4])) fun v => u == v) = true := by decide +kernel

theorem witness_DataSplitInTwo :
    nextIs (exec (.data 3 0) (absorbing true [0, 1, 2, 3, 4])) (fun t => t.arch.err == .ok &&
      nextIs (exec (.data 2 4) t) fun u => u.arch.err == .ok &&
        nextIs (exec (.data (3 + 2) 4) (absorbing true [0, 1, 2, 3, 4])) fun v => v.arch.err == .ok) = true := by
  decide +kernel

theorem witness_StreamingEquivalence :
    [[0, 1], [2, 3, 4]].flatten = [[], [0, 1, 2, 3, 4]].flatten ∧
    nextIs (feed .aad [[0, 1], [2, 3, 4]] (initialized true [])) (fun t => t.arch.err == .ok &&
      nextIs (feed (.data · 9) [[5, 6, 7, 8, 9]] t) fun u => u.arch.err == .ok) = true ∧
    nextIs (feed .aad [[], [0, 1, 2, 3, 4]] (initialized true [])) (fun t => t.arch.err == .ok &&
      nextIs (feed (.data · 9) [[5], [6, 7, 8, 9]] t) fun u => u.arch.err == .ok) = true := by decide +kernel

theorem witness_RoundTrip : key8.length = (Variant.toyB).cfg.k ∧ nonce4.length = (Variant.toyB).cfg.n := by decide

end Sys2Proof.Tests
end

