-- ==== Sys2Proof/Proofs/Scope.lean ====
section
/-! PROOFS about 00_scope section 3: what the check of a configuration (R13) admits, what it answers where it refuses, and
that every variant of the model passes it. -/

namespace Sys2Proof

/-! ### The check, clause by clause -/

/-- One clause of `Cfg.flaws` names nothing iff the clause holds. -/
theorem clause_eq_nil_iff {p : Prop} [Decidable p] (f : ConfigFlaw) : (if p then [] else [f]) = [] ↔ p := by
  by_cases hp : p <;> simp [hp]

theorem Cfg.wellFormed_iff_flaws_eq_nil (C : Cfg) : C.wellFormed = true ↔ C.flaws = [] :=
  List.isEmpty_iff

/-- No flaw is named iff every clause of R13 holds, in the order in which `Cfg.flaws` goes through them. -/
theorem Cfg.flaws_eq_nil_iff (C : Cfg) :
    C.flaws = [] ↔
      1 ≤ C.r ∧ C.r < C.S ∧ C.S ≤ 255 ∧
      (1 ≤ C.t ∧ C.t ≤ 255) ∧ (1 ≤ C.k ∧ C.k ≤ 255) ∧ (1 ≤ C.n ∧ C.n ≤ 255) ∧
      C.keyOffset + C.k ≤ C.S ∧ C.tagOffset + C.t ≤ C.S ∧
      C.padMarker ≠ 0 ∧
      (C.perBlockDs = true ∨ C.dsAadInt.toList = zeroBytes C.S ∧ C.dsMsgInt.toList = zeroBytes C.S) := by
  simp only [Cfg.flaws, List.append_eq_nil_iff, clause_eq_nil_iff, and_assoc, zeroBytes]

/-- R13 as the spec writes it: a `PER_BLOCK_DS` that is false implies zero interior masks. -/
theorem Cfg.wellFormed_iff (C : Cfg) :
    C.wellFormed = true ↔
      (1 ≤ C.r ∧ C.r < C.S ∧ C.S ≤ 255) ∧
      (1 ≤ C.t ∧ C.t ≤ 255) ∧ (1 ≤ C.k ∧ C.k ≤ 255) ∧ (1 ≤ C.n ∧ C.n ≤ 255) ∧
      (C.keyOffset + C.k ≤ C.S ∧ C.tagOffset + C.t ≤ C.S) ∧
      C.padMarker ≠ 0 ∧
      (C.perBlockDs = false → C.dsAadInt.toList = zeroBytes C.S ∧ C.dsMsgInt.toList = zeroBytes C.S) := by
  have perBlockDs_or_iff (p : Prop) : (C.perBlockDs = true ∨ p) ↔ (C.perBlockDs = false → p) := by
    rw [← Bool.not_eq_true, or_iff_not_imp_left]
  rw [C.wellFormed_iff_flaws_eq_nil, C.flaws_eq_nil_iff, perBlockDs_or_iff]
  simp only [and_assoc]

/-! ### What the check answers -/

theorem Cfg.check_of_wellFormed {C : Cfg} (h : C.wellFormed = true) : C.check = .ok ⟨C, h⟩ :=
  dif_pos h

theorem Cfg.check_of_not_wellFormed {C : Cfg} (h : C.wellFormed = false) : C.check = .error C.flaws :=
  dif_neg (Bool.eq_false_iff.mp h)

/-- Only well-formed configurations are admitted, because an admitted one carries its own check. -/
theorem Cfg.exists_check_eq_ok_iff (C : Cfg) : (∃ D : CheckedCfg, C.check = .ok D ∧ D.cfg = C) ↔ C.wellFormed = true := by
  constructor
  · rintro ⟨D, -, rfl⟩
    exact D.ok
  · exact fun h => ⟨⟨C, h⟩, Cfg.check_of_wellFormed h, rfl⟩

theorem Cfg.flaws_ne_nil_of_not_wellFormed {C : Cfg} (h : C.wellFormed = false) : C.flaws ≠ [] :=
  mt C.wellFormed_iff_flaws_eq_nil.mpr (Bool.eq_false_iff.mp h)

/-! ### The two fixtures of 95 section 2 -/

theorem toyA_wellFormed : toyA.wellFormed = true := by decide

theorem toyB_wellFormed : toyB.wellFormed = true := by decide

/-! ### The obligations -/

/-- Settles O1 (R13): admission is well-formedness, and well-formedness is R13's list of clauses. -/
theorem configurationAdmittedIffWellFormed : Obligations.ConfigurationAdmittedIffWellFormed := fun C =>
  ⟨C.exists_check_eq_ok_iff.trans C.wellFormed_iff,
    fun h => ⟨Cfg.check_of_not_wellFormed h, Cfg.flaws_ne_nil_of_not_wellFormed h⟩⟩

/-- Settles O2, by cases on the variant: the device carries its check, and the two fixtures of 95 section 2 are closed
configurations on which the check runs. -/
theorem everyInstanceIsWellFormed : Obligations.EveryInstanceIsWellFormed := by
  intro v
  cases v with
  | device => exact Config.device.ok
  | toyA => exact toyA_wellFormed
  | toyB => exact toyB_wellFormed

end Sys2Proof
end

/-! PROOFS about 10_state: what the registers show, what a command leaves (each rule without its loops), what it leaves
unchanged, and that every step and every clock edge keeps the invariant. -/

namespace Sys2Proof

/-! ### What R13 gives the configuration of an engine -/

theorem Cfg.one_le_rate {C : Cfg} (h : C.wellFormed = true) : 1 ≤ C.r := by
  obtain ⟨⟨hr, -⟩, -⟩ := C.wellFormed_iff.1 h
  exact hr

theorem Cfg.rate_lt_state {C : Cfg} (h : C.wellFormed = true) : C.r < C.S := by
  obtain ⟨⟨-, hrS, -⟩, -⟩ := C.wellFormed_iff.1 h
  exact hrS

theorem Cfg.tag_inside_state {C : Cfg} (h : C.wellFormed = true) : C.tagOffset + C.t ≤ C.S := by
  obtain ⟨-, -, -, -, ⟨-, htag⟩, -, -⟩ := C.wellFormed_iff.1 h
  exact htag

namespace Machine

theorem State.cfg_wellFormed (s : State) : s.cfg.wellFormed = true := everyInstanceIsWellFormed s.variant

theorem State.one_le_rate (s : State) : 1 ≤ s.cfg.r := Cfg.one_le_rate s.cfg_wellFormed

/-! ### Blocks of a stream -/

theorem blocksOf_zero (r : Nat) (l : List Byte) : blocksOf r 0 l = [] := rfl

/-- The first block, then the blocks of the rest (R18). -/
theorem blocksOf_succ (r nb : Nat) (l : List Byte) :
    blocksOf r (nb + 1) l = l.take r :: blocksOf r nb (l.drop r) := by
  simp [blocksOf, List.range_succ_eq_map, slice, Function.comp_def, Nat.mul_succ, Nat.add_comm]

theorem blocksOf_length (r nb : Nat) (l : List Byte) : (blocksOf r nb l).length = nb := by
  simp [blocksOf]

/-- Where the stream is long enough every block is full. -/
theorem length_of_mem_blocksOf {r : Nat} : ∀ {nb : Nat} {l : List Byte}, r * nb ≤ l.length →
    ∀ b ∈ blocksOf r nb l, b.length = r
  | 0, _, _, _, hb => nomatch hb
  | nb + 1, l, hl, b, hb => by
    rw [Nat.mul_succ] at hl
    rw [blocksOf_succ, List.mem_cons] at hb
    obtain rfl | hb := hb
    · rw [List.length_take]; omega
    · exact length_of_mem_blocksOf (by rw [List.length_drop]; omega) b hb

theorem absorbedAad_cons (C : Cfg) (st : List Byte) (pending : Bool) (b : List Byte) (bs : List (List Byte)) :
    absorbedAad C st pending (b :: bs) =
      absorbedAad C (xorAt 0 (deferred C .aadInt .aadInt pending st) b) true bs := rfl

/-- The fold of `absorbedMsg` appends to the output it starts from. -/
theorem absorbedMsg_foldl (C : Cfg) (dir : Bool) (bs : List (List Byte)) (st : List Byte) (pending : Bool)
    (out : List Byte) :
    bs.foldl
      (fun p b =>
        ((duplexBytes dir (deferred C .msgInt .msgInt p.2.1 p.1) b).1, true,
          p.2.2 ++ (duplexBytes dir (deferred C .msgInt .msgInt p.2.1 p.1) b).2)) (st, pending, out) =
      ((absorbedMsg C dir (st, pending) bs).1, (absorbedMsg C dir (st, pending) bs).2.1,
        out ++ (absorbedMsg C dir (st, pending) bs).2.2) := by
  induction bs generalizing st pending out with
  | nil => simp [absorbedMsg]
  | cons b bs ih =>
    have first_block : absorbedMsg C dir (st, pending) (b :: bs) =
        let d := duplexBytes dir (deferred C .msgInt .msgInt pending st) b
        ((absorbedMsg C dir (d.1, true) bs).1, (absorbedMsg C dir (d.1, true) bs).2.1,
          [] ++ d.2 ++ (absorbedMsg C dir (d.1, true) bs).2.2) := ih _ _ _
    rw [List.foldl_cons, ih]
    simp [first_block]

theorem absorbedMsg_nil (C : Cfg) (dir : Bool) (start : List Byte × Bool) :
    absorbedMsg C dir start [] = (start.1, start.2, []) := rfl

/-- One block, then the rest of the stream (R67). -/
theorem absorbedMsg_cons (C : Cfg) (dir : Bool) (start : List Byte × Bool) (b : List Byte) (bs : List (List Byte)) :
    absorbedMsg C dir start (b :: bs) =
      let d := duplexBytes dir (deferred C .msgInt .msgInt start.2 start.1) b
      let p := absorbedMsg C dir (d.1, true) bs
      (p.1, p.2.1, d.2 ++ p.2.2) :=
  absorbedMsg_foldl C dir bs _ true _

/-! ### The two drain loops, as one update each -/

/-- The loop of AAD (R80) absorbs every complete block and keeps the residue. -/
theorem drainAad_arch {C : Cfg} (hr : 1 ≤ C.r) (fuel : Nat) (x : Work) (h : x.arch.abuf.length ≤ fuel) :
    (drainAad C fuel x).arch =
      let nb := x.arch.abuf.length / C.r
      let p := absorbedAad C x.arch.st x.arch.pending (blocksOf C.r nb x.arch.abuf)
      { x.arch with st := p.1, pending := p.2, abuf := x.arch.abuf.drop (C.r * nb) } := by
  induction fuel generalizing x with
  | zero =>
    have hpart : x.arch.abuf.length < C.r := by omega
    simp [drainAad, Nat.div_eq_of_lt hpart, blocksOf_zero, absorbedAad]
  | succ fuel ih =>
    rw [drainAad]
    split
    next hfull =>
      have hnb : x.arch.abuf.length / C.r = (x.arch.abuf.length - C.r) / C.r + 1 :=
        Nat.div_eq_sub_div hr hfull
      rw [ih _ (by simp; omega)]
      simp [hnb, blocksOf_succ, absorbedAad_cons, Nat.mul_succ, Nat.add_comm C.r]
    next hpart =>
      simp [Nat.div_eq_of_lt (Nat.lt_of_not_le hpart), blocksOf_zero, absorbedAad]

theorem drainAad_out (C : Cfg) (fuel : Nat) (x : Work) : (drainAad C fuel x).out = x.out := by
  induction fuel generalizing x with
  | zero => rfl
  | succ fuel ih =>
    rw [drainAad]
    split
    · simp [ih]
    · rfl

/-- The loop of DATA (R81) transforms the first `nb` blocks and keeps the rest. -/
theorem drainMsg_arch (C : Cfg) (nb : Nat) (x : Work) :
    (drainMsg C nb x).arch =
      let p := absorbedMsg C x.arch.dir (x.arch.st, x.arch.pending) (blocksOf C.r nb x.arch.dbuf)
      { x.arch with st := p.1, pending := p.2.1, dbuf := x.arch.dbuf.drop (C.r * nb) } := by
  induction nb generalizing x with
  | zero => simp [drainMsg, blocksOf_zero, absorbedMsg_nil]
  | succ nb ih => simp [drainMsg, ih, blocksOf_succ, absorbedMsg_cons, Nat.mul_succ, Nat.add_comm]

/-- The loop of DATA emits its blocks' output after what was emitted before (R16, R67). -/
theorem drainMsg_out (C : Cfg) (nb : Nat) (x : Work) :
    (drainMsg C nb x).out =
      x.out ++ (absorbedMsg C x.arch.dir (x.arch.st, x.arch.pending) (blocksOf C.r nb x.arch.dbuf)).2.2 := by
  induction nb generalizing x with
  | zero => simp [drainMsg, blocksOf_zero, absorbedMsg_nil]
  | succ nb ih => simp [drainMsg, ih, blocksOf_succ, absorbedMsg_cons]

/-! ### What a command leaves -/

/-- What a rule leaves for the host to see committed: the architectural state and the output. -/
def Work.effect (x : Work) : Arch × List Byte := (x.arch, x.out)

/-- A result code and nothing else (R87): the effect of an error that keeps the state. -/
def refusedEffect (e : ResultCode) (a : Arch) : Arch × List Byte := (a.setStatus e 0, [])

/-- INIT (R77) on the operand `op`. -/
def initEffect (C : Cfg) (dir : Bool) (klen nlen : Nat) (a : Arch) (op : List Byte) : Arch × List Byte :=
  if klen ≠ C.k then refusedEffect .invalidKeyLength (zeroiseArch C a)
  else if nlen ≠ C.n then refusedEffect .invalidNonceLength (zeroiseArch C a)
  else
    ({ phase := .initialized, dir := dir, st := initialSt C (op.take klen) ((op.drop klen).take nlen),
       key := op.take klen, nonce := (op.drop klen).take nlen, abuf := [], dbuf := [], pending := false, tag := none,
       err := .ok, olen := 0 }, [])

/-- AAD (R80) with the bytes `A`. -/
def aadEffect (C : Cfg) (a : Arch) (A : List Byte) : Arch × List Byte :=
  if a.phase = .uninitialized then refusedEffect .notInitialized a
  else if a.phase = .processing ∨ a.phase = .finalized then refusedEffect .protocolSequenceError a
  else
    let total := a.abuf ++ A
    let nb := total.length / C.r
    let p := absorbedAad C a.st a.pending (blocksOf C.r nb total)
    ({ a with
       phase := .absorbingAad, st := p.1, pending := p.2, abuf := total.drop (C.r * nb), err := .ok, olen := 0 }, [])

/-- DATA (R81) with the bytes `D`. -/
def dataEffect (C : Cfg) (ilen ocap : Nat) (a : Arch) (D : List Byte) : Arch × List Byte :=
  let nb := dataBlocks C a.dir a.dbuf.length ilen
  if a.phase = .uninitialized then refusedEffect .notInitialized a
  else if a.phase = .finalized then refusedEffect .protocolSequenceError a
  else if ocap < C.r * nb then refusedEffect .bufferTooShort a
  else
    let total := a.dbuf ++ D
    let p := absorbedMsg C a.dir (messageStart C a) (blocksOf C.r nb total)
    ({ a with
       phase := .processing, st := p.1, pending := p.2.1, abuf := if a.aadOpen then [] else a.abuf
       dbuf := total.drop (C.r * nb), err := .ok, olen := BitVec.ofNat 16 p.2.2.length }, p.2.2)

/-- The state FINAL leaves when the message stream has closed on `st` (R82, R83). -/
def finalizedArch (C : Cfg) (st : List Byte) (err : ResultCode) (olen : Nat) (a : Arch) : Arch :=
  { a with
    phase := .finalized, st := tagSt C a.key st, abuf := if a.aadOpen then [] else a.abuf, dbuf := [], pending := false
    tag := some (tagOf C a.key st), err := err, olen := BitVec.ofNat 16 olen }

/-- FINAL when encrypting (R82). -/
def finalEncEffect (C : Cfg) (ocap : Nat) (a : Arch) : Arch × List Byte :=
  if a.phase = .uninitialized then refusedEffect .notInitialized a
  else if a.phase = .finalized then refusedEffect .protocolSequenceError a
  else if ocap < a.dbuf.length + C.t then refusedEffect .bufferTooShort a
  else
    let m := closedMsg C a.dir (messageStart C a) a.dbuf
    let out := m.2 ++ tagOf C a.key m.1
    (finalizedArch C m.1 .ok out.length a, out)

/-- FINAL when decrypting (R83). -/
def finalDecEffect (C : Cfg) (ocap : Nat) (a : Arch) : Arch × List Byte :=
  let B := a.dbuf.length
  if a.phase = .uninitialized then refusedEffect .notInitialized a
  else if a.phase = .finalized then refusedEffect .protocolSequenceError a
  else if B < C.t then
    ({ a with
       phase := .finalized, abuf := [], dbuf := [], pending := false, tag := none, err := .authenticationFailure
       olen := 0 }, [])
  else if ocap < B - C.t then refusedEffect .bufferTooShort a
  else
    let m := closedMsg C a.dir (messageStart C a) (a.dbuf.take (B - C.t))
    if tagEqual (tagOf C a.key m.1) (a.dbuf.drop (B - C.t)) then (finalizedArch C m.1 .ok m.2.length a, m.2)
    else (finalizedArch C m.1 .authenticationFailure 0 a, [])

/-- RESET (R78). -/
def resetEffect (C : Cfg) (a : Arch) : Arch × List Byte :=
  if a.phase = .uninitialized then refusedEffect .notInitialized a
  else
    ({ a with
       phase := .initialized, st := initialSt C a.key a.nonce, abuf := [], dbuf := [], pending := false, tag := none
       err := .ok, olen := 0 }, [])

/-- A command's effect on the architectural state `a` with the operand `op` (R77 to R83), without working state or
loops; `rule_effect` ties it to the rules. -/
def commandEffect (C : Cfg) (i : Instr) (a : Arch) (op : List Byte) : Arch × List Byte :=
  match i with
  | .initEnc klen nlen => initEffect C true klen nlen a op
  | .initDec klen nlen => initEffect C false klen nlen a op
  | .aad ilen => aadEffect C a (op.take ilen)
  | .data ilen ocap => dataEffect C ilen ocap a (op.take ilen)
  | .final ocap => if a.dir then finalEncEffect C ocap a else finalDecEffect C ocap a
  | .reset => resetEffect C a
  | .clear => ((zeroiseArch C a).setStatus .ok 0, [])

/-! Each rule branches as its effect does: the refusals agree by computation, and what is left is the branch that runs. -/

theorem initRule_effect (C : Cfg) (dir : Bool) (klen nlen : Nat) (a : Arch) (op : List Byte) :
    (initRule C dir klen nlen (Work.start a op)).effect = initEffect C dir klen nlen a op := by
  simp only [initRule, initEffect, apply_ite Work.effect]
  rfl

theorem aadRule_effect {C : Cfg} (hr : 1 ≤ C.r) (ilen : Nat) (a : Arch) (op : List Byte) :
    (aadRule C ilen (Work.start a op)).effect = aadEffect C a (op.take ilen) := by
  simp only [aadRule, aadEffect, apply_ite Work.effect]
  refine ite_congr rfl (fun _ => rfl) fun _ => ite_congr rfl (fun _ => rfl) fun _ => ?_
  simp [Work.effect, drainAad_arch hr, drainAad_out]
  rfl

theorem dataRule_effect (C : Cfg) (ilen ocap : Nat) (a : Arch) (op : List Byte) :
    (dataRule C ilen ocap (Work.start a op)).effect = dataEffect C ilen ocap a (op.take ilen) := by
  simp only [dataRule, dataEffect, apply_ite Work.effect]
  refine ite_congr rfl (fun _ => rfl) fun _ => ite_congr rfl (fun _ => rfl) fun _ =>
    ite_congr rfl (fun _ => rfl) fun _ => ?_
  simp [Work.effect, drainMsg_arch, drainMsg_out, closeAadIfOpen_arch]
  rfl

theorem finalEncRule_effect (C : Cfg) (ocap : Nat) (a : Arch) (op : List Byte) :
    (finalEncRule C ocap (Work.start a op)).effect = finalEncEffect C ocap a := by
  simp only [finalEncRule, finalEncEffect, apply_ite Work.effect]
  refine ite_congr rfl (fun _ => rfl) fun _ => ite_congr rfl (fun _ => rfl) fun _ =>
    ite_congr rfl (fun _ => rfl) fun _ => ?_
  simp [Work.effect, closeAadIfOpen_arch, closeMsg_arch, closeMsg_output, deriveTag_arch, deriveTag_tag]
  rfl

theorem finalDecRule_effect (C : Cfg) (ocap : Nat) (a : Arch) (op : List Byte) :
    (finalDecRule C ocap (Work.start a op)).effect = finalDecEffect C ocap a := by
  simp only [finalDecRule, finalDecEffect, apply_ite Work.effect]
  refine ite_congr rfl (fun _ => rfl) fun _ => ite_congr rfl (fun _ => rfl) fun _ =>
    ite_congr rfl (fun _ => rfl) fun _ => ite_congr rfl (fun _ => rfl) fun _ => ?_
  simp [Work.effect, closeAadIfOpen_arch, closeMsg_arch, closeMsg_output, deriveTag_arch, deriveTag_tag]
  rfl

theorem resetRule_effect (C : Cfg) (a : Arch) (op : List Byte) :
    (resetRule C (Work.start a op)).effect = resetEffect C a := by
  simp only [resetRule, resetEffect, apply_ite Work.effect]
  rfl

/-- Every rule of R53 has the effect written out above. -/
theorem rule_effect {C : Cfg} (hr : 1 ≤ C.r) (i : Instr) (a : Arch) (op : List Byte) :
    (i.rule C (Work.start a op)).effect = commandEffect C i a op := by
  cases i with
  | initEnc klen nlen => exact initRule_effect C true klen nlen a op
  | initDec klen nlen => exact initRule_effect C false klen nlen a op
  | aad ilen => exact aadRule_effect hr ilen a op
  | data ilen ocap => exact dataRule_effect C ilen ocap a op
  | final ocap =>
    rw [Instr.rule, finalRule, commandEffect, Work.start_arch]
    split
    · exact finalEncRule_effect C ocap a op
    · exact finalDecRule_effect C ocap a op
  | reset => exact resetRule_effect C a op
  | clear => rfl

/-! ### exec and step through the effect -/

theorem rule_arch {C : Cfg} (hr : 1 ≤ C.r) (i : Instr) (a : Arch) (op : List Byte) :
    (i.rule C (Work.start a op)).arch = (commandEffect C i a op).1 := congrArg Prod.fst (rule_effect hr i a op)

theorem rule_out {C : Cfg} (hr : 1 ≤ C.r) (i : Instr) (a : Arch) (op : List Byte) :
    (i.rule C (Work.start a op)).out = (commandEffect C i a op).2 := congrArg Prod.snd (rule_effect hr i a op)

/-- A command with its operand presented delivers its effect, one without starves (R50). -/
theorem exec_eq_deliver (i : Instr) (s : State) :
    exec i s =
      if i.oplen ≤ s.din.length then
        let p := commandEffect s.cfg i s.arch (s.din.take i.oplen)
        deliver p.1 p.2 { s with din := s.din.drop i.oplen }
      else .fault .operandStarved := by
  rw [exec_eq_runCommand, runCommand]
  simp only [rule_arch s.one_le_rate, rule_out s.one_le_rate]

/-- Everything exec can answer as a next state, in terms of the command's effect. -/
theorem exec_next_effect {i : Instr} {s t : State} (h : exec i s = .next t) :
    (s.din.take i.oplen).length = i.oplen ∧
    t = s.done i.oplen (commandEffect s.cfg i s.arch (s.din.take i.oplen)).1
          (commandEffect s.cfg i s.arch (s.din.take i.oplen)).2 := by
  obtain ⟨supplied, -, ht⟩ := exec_next.1 h
  rw [rule_arch s.one_le_rate, rule_out s.one_le_rate] at ht
  exact ⟨by rw [List.length_take]; omega, ht⟩

/-- The rule and the operand length of a legal word are its command's. -/
theorem runCommand_of_legal {w : CmdWord} {i : Instr} (h : decode w = .ok i) (s : State) :
    runCommand (wordOplen w) (wordRule s.cfg w) s = exec i s := by
  rw [exec_eq_runCommand, wordOplen, wordRule, h]

/-- An illegal word has no operand and the rule of R54. -/
theorem runCommand_of_illegal {w : CmdWord} {e : Illegal} (h : decode w = .error e) (s : State) :
    runCommand (wordOplen w) (wordRule s.cfg w) s = completeIllegal s := by
  rw [completeIllegal, wordOplen, wordRule, h]

/-- The state in which the next word runs differs only in the host's streams and the lifecycle. -/
theorem nextWord_some {s s' : State} {w : CmdWord} (h : nextWord s = some (w, s')) :
    s'.variant = s.variant ∧ s'.arch = s.arch ∧ s'.rstN = s.rstN := by
  unfold nextWord at h
  split at h
  · split at h <;> cases h
    exact ⟨rfl, rfl, rfl⟩
  · cases h; exact ⟨rfl, rfl, rfl⟩
  · cases h

/-! ### A step, case by case -/

theorem step_of_reset {s : State} (h : s.rstN = false) : step s = .next s.hwReset := if_pos h

theorem step_of_output {s : State} {left : List Byte} {after : Arch} (hrst : s.rstN = true)
    (h : s.flight = .output left after) : step s = deliver after left s := by
  simp [step, hrst, h]

theorem step_of_waiting {s : State} (hrst : s.rstN = true) (hflight : s.flight = .idle) (hcmdq : s.cmdq = []) :
    step s = .next s := by
  simp [step, nextWord, hrst, hflight, hcmdq]

/-- A presented word and a word in its operand step are run by their rule, legal or not. -/
theorem step_of_nextWord {s s' : State} {w : CmdWord} (hrst : s.rstN = true) (h : nextWord s = some (w, s')) :
    step s = runCommand (wordOplen w) (wordRule s'.cfg w) s' := by
  cases hflight : s.flight with
  | output left after => simp [nextWord, hflight] at h
  | idle | operand word taken =>
    cases hw : decode w with
    | ok i =>
      rw [runCommand_of_legal hw]
      simp [step, hrst, hflight, h, hw]
    | error e =>
      rw [runCommand_of_illegal hw]
      simp [step, hrst, hflight, h, hw]

/-- Everything a step can do when it answers a next state: reset, deliver what is left, wait, or run a word. -/
theorem step_next {s t : State} (h : step s = .next t) :
    t = s.hwReset ∨
    (∃ left after, s.flight = .output left after ∧ t = s.complete after left) ∨
    t = s ∨
    ∃ w s', nextWord s = some (w, s') ∧ runCommand (wordOplen w) (wordRule s'.cfg w) s' = .next t := by
  cases hrst : s.rstN with
  | false =>
    rw [step_of_reset hrst] at h
    exact .inl (Host.Outcome.next.inj h).symm
  | true =>
    have runs_word {w : CmdWord} {s' : State} (hword : nextWord s = some (w, s')) :
        ∃ w s', nextWord s = some (w, s') ∧ runCommand (wordOplen w) (wordRule s'.cfg w) s' = .next t :=
      ⟨w, s', hword, by rwa [← step_of_nextWord hrst hword]⟩
    cases hflight : s.flight with
    | idle =>
      cases hcmdq : s.cmdq with
      | nil =>
        rw [step_of_waiting hrst hflight hcmdq] at h
        exact .inr (.inr (.inl (Host.Outcome.next.inj h).symm))
      | cons w ws => exact .inr (.inr (.inr (runs_word (by rw [nextWord, hflight, hcmdq]))))
    | operand w taken => exact .inr (.inr (.inr (runs_word (by rw [nextWord, hflight]))))
    | output left after =>
      rw [step_of_output hrst hflight] at h
      exact .inr (.inl ⟨left, after, rfl, (deliver_next.1 h).2⟩)

/-- No step changes which configuration the engine has. -/
theorem step_variant {s t : State} (h : step s = .next t) : t.variant = s.variant := by
  obtain rfl | ⟨left, after, -, rfl⟩ | rfl | ⟨w, s', hword, hrun⟩ := step_next h
  · rfl
  · rfl
  · rfl
  · obtain ⟨-, -, rfl⟩ := runCommand_next.1 hrun
    exact (nextWord_some hword).1

/-! ### Widths -/

theorem initialSt_length (C : Cfg) (key nonce : List Byte) : (initialSt C key nonce).length = C.S := by
  simp [initialSt]

theorem deferred_length {C : Cfg} {st : List Byte} (site : Site) (m : Mask) (pending : Bool) (h : st.length = C.S) :
    (deferred C site m pending st).length = C.S := by
  unfold deferred
  split <;> simp [h]

theorem absorbedAad_st_length {C : Cfg} {st : List Byte} (pending : Bool) (bs : List (List Byte))
    (h : st.length = C.S) : (absorbedAad C st pending bs).1.length = C.S := by
  induction bs generalizing st pending with
  | nil => exact h
  | cons b bs ih =>
    rw [absorbedAad_cons]
    exact ih _ (by rw [xorAt_length, deferred_length _ _ _ h])

theorem closedAadSt_length (C : Cfg) (st : List Byte) (pending : Bool) (res : List Byte) :
    (closedAadSt C st pending res).length = C.S := by
  unfold closedAadSt
  split <;> [skip; split] <;> simp

theorem messageStart_st_length {C : Cfg} {a : Arch} (h : a.st.length = C.S) :
    (messageStart C a).1.length = C.S := by
  unfold messageStart
  split
  · exact closedAadSt_length ..
  · exact h

theorem absorbedMsg_st_length {C : Cfg} (dir : Bool) {start : List Byte × Bool} (bs : List (List Byte))
    (h : start.1.length = C.S) : (absorbedMsg C dir start bs).1.length = C.S := by
  induction bs generalizing start with
  | nil => exact h
  | cons b bs ih =>
    rw [absorbedMsg_cons]
    exact ih (by rw [duplexBytes_st_length, deferred_length _ _ _ h])

theorem tagSt_length (C : Cfg) {key st : List Byte} : (tagSt C key st).length = C.S := by
  unfold tagSt
  split <;> simp

theorem tagOf_length {C : Cfg} (hC : C.wellFormed = true) (key st : List Byte) : (tagOf C key st).length = C.t := by
  have htag := Cfg.tag_inside_state hC
  rw [tagOf, slice, List.length_take, List.length_drop, tagSt_length]
  omega

/-! ### Output lengths -/

/-- The duplex emits a byte for every input byte that meets a state byte (R66). -/
theorem duplexBytes_out_length (enc : Bool) :
    ∀ st x : List Byte, (duplexBytes enc st x).2.length = min st.length x.length
  | st, [] => by simp [duplexBytes]
  | [], _ :: _ => by simp [duplexBytes]
  | _ :: st, _ :: xs => by
    simp only [duplexBytes, List.length_cons, duplexBytes_out_length enc st xs]
    omega

/-- Full blocks come out as they went in (R67). -/
theorem absorbedMsg_out_length {C : Cfg} (hrS : C.r ≤ C.S) (dir : Bool) {start : List Byte × Bool}
    {bs : List (List Byte)} (hst : start.1.length = C.S) (hbs : ∀ b ∈ bs, b.length = C.r) :
    (absorbedMsg C dir start bs).2.2.length = C.r * bs.length := by
  induction bs generalizing start with
  | nil => rfl
  | cons b bs ih =>
    have hdef := deferred_length .msgInt .msgInt start.2 hst
    have hrest := ih (start := ((duplexBytes dir (deferred C .msgInt .msgInt start.2 start.1) b).1, true))
      (by rw [duplexBytes_st_length, hdef]) fun b' hb' => hbs b' (List.mem_cons_of_mem _ hb')
    rw [absorbedMsg_cons]
    simp only [List.length_append, hrest, duplexBytes_out_length, hdef, hbs b List.mem_cons_self, List.length_cons,
      Nat.mul_succ]
    omega

/-- What closes the message stream emits as many bytes as the state has for the residue (R68). -/
theorem closedMsg_out_length {C : Cfg} (dir : Bool) {start : List Byte × Bool} (res : List Byte)
    (hst : start.1.length = C.S) : (closedMsg C dir start res).2.length = min C.S res.length := by
  unfold closedMsg
  split
  next hcase => simp [hcase.2]
  next =>
    split
    · rw [duplexBytes_out_length, deferred_length _ _ _ hst]
    next hcase =>
      have hres : res = [] := by simpa using (not_or.1 hcase).1
      simp [hres]

/-- The blocks DATA drains are there (R71). -/
theorem rate_mul_dataBlocks_le (C : Cfg) (dir : Bool) (B L : Nat) : C.r * dataBlocks C dir B L ≤ B + L := by
  unfold dataBlocks
  split
  · exact Nat.mul_div_le _ _
  · split
    · exact (Nat.mul_div_le _ _).trans (Nat.sub_le _ _)
    · simp

/-- What is left of `m` bytes when every complete block is gone. -/
theorem residue_le {r : Nat} (hr : 1 ≤ r) (m : Nat) : m - r * (m / r) ≤ r - 1 := by
  rw [← Nat.mod_def]
  exact Nat.le_pred_of_lt (Nat.mod_lt m hr)

/-- What DATA keeps is within R24's bound for the direction (R71). -/
theorem dataBlocks_residue {C : Cfg} (hr : 1 ≤ C.r) (dir : Bool) (B L : Nat) :
    B + L - C.r * dataBlocks C dir B L ≤ if dir then C.r - 1 else C.r + C.t - 1 := by
  unfold dataBlocks
  split
  · exact residue_le hr (B + L)
  · split
    next =>
      have hresidue := residue_le hr (B + L - C.t)
      omega
    next => omega

/-! ### The invariant of the architectural state -/

section PhaseInv

variable {C : Cfg} {a : Arch}

theorem phaseInv_initialized (h : a.phase = .initialized) :
    a.PhaseInv C ↔ a.abuf = [] ∧ a.dbuf = [] ∧ a.pending = false ∧ a.tag = none := by
  simp only [Arch.PhaseInv, h]

theorem phaseInv_absorbingAad (h : a.phase = .absorbingAad) :
    a.PhaseInv C ↔ a.abuf.length ≤ C.r - 1 ∧ a.dbuf = [] ∧ a.tag = none := by
  simp only [Arch.PhaseInv, h]

theorem phaseInv_processing (h : a.phase = .processing) :
    a.PhaseInv C ↔ a.abuf = [] ∧ a.DbufBound C ∧ a.tag = none := by
  simp only [Arch.PhaseInv, h]

theorem phaseInv_finalized (h : a.phase = .finalized) :
    a.PhaseInv C ↔ a.abuf = [] ∧ a.dbuf = [] ∧ a.pending = false := by
  simp only [Arch.PhaseInv, h]

/-- R24's bound as one inequality. -/
theorem dbufBound_iff : a.DbufBound C ↔ a.dbuf.length ≤ if a.dir then C.r - 1 else C.r + C.t - 1 := by
  unfold Arch.DbufBound
  split <;> rfl

/-- AAD bytes are buffered only while the AAD stream is open (R33). -/
theorem abuf_eq_nil_of_closed (h : a.PhaseInv C) : (if a.aadOpen then [] else a.abuf) = [] := by
  unfold Arch.aadOpen
  cases hphase : a.phase <;> simp_all [Arch.PhaseInv]

/-- A session that has not been finalized has no tag (R28, R33). -/
theorem tag_eq_none_of_not_finalized (h : a.PhaseInv C) (hphase : a.phase ≠ .finalized) : a.tag = none := by
  cases hp : a.phase <;> simp_all [Arch.PhaseInv]

/-- Where AAD may still come no message byte is buffered (R33). -/
theorem dbuf_eq_nil_of_before_processing (h : a.PhaseInv C) (hproc : a.phase ≠ .processing) : a.dbuf = [] := by
  cases hp : a.phase <;> simp_all [Arch.PhaseInv]

end PhaseInv

theorem inv_reset (C : Cfg) : (Arch.reset C).Inv C :=
  ⟨by simp [Arch.Widths], rfl, rfl, rfl, rfl, rfl, rfl, rfl, rfl⟩

/-- STATUS is no part of the invariant. -/
theorem inv_setStatus {C : Cfg} {a : Arch} (e : ResultCode) (m : Nat) : (a.setStatus e m).Inv C ↔ a.Inv C := Iff.rfl

theorem inv_zeroiseArch (C : Cfg) (a : Arch) : (zeroiseArch C a).Inv C := inv_reset C

/-- An error that keeps the state keeps the invariant. -/
theorem inv_refusedEffect {C : Cfg} {a : Arch} (e : ResultCode) (ha : a.Inv C) : (refusedEffect e a).1.Inv C :=
  (inv_setStatus e 0).2 ha

theorem inv_initEffect {C : Cfg} (dir : Bool) {klen nlen : Nat} (a : Arch) {op : List Byte}
    (hop : op.length = klen + nlen) : (initEffect C dir klen nlen a op).1.Inv C := by
  unfold initEffect
  split
  · exact inv_refusedEffect _ (inv_zeroiseArch C a)
  next hk =>
    split
    · exact inv_refusedEffect _ (inv_zeroiseArch C a)
    next hn =>
      have hkey : (op.take klen).length = C.k := by rw [List.length_take]; omega
      have hnonce : ((op.drop klen).take nlen).length = C.n := by rw [List.length_take, List.length_drop]; omega
      exact ⟨⟨initialSt_length .., hkey, hnonce, nofun⟩, (phaseInv_initialized rfl).2 ⟨rfl, rfl, rfl, rfl⟩⟩

theorem inv_aadEffect {C : Cfg} (hr : 1 ≤ C.r) {a : Arch} (A : List Byte) (ha : a.Inv C) :
    (aadEffect C a A).1.Inv C := by
  simp only [aadEffect]
  split
  · exact inv_refusedEffect _ ha
  next =>
    split
    · exact inv_refusedEffect _ ha
    next hopen =>
      obtain ⟨⟨hst, hkey, hnonce, htag⟩, hphase⟩ := ha
      obtain ⟨hproc, hfin⟩ := not_or.1 hopen
      refine ⟨⟨absorbedAad_st_length _ _ hst, hkey, hnonce, htag⟩, (phaseInv_absorbingAad rfl).2 ⟨?_, ?_, ?_⟩⟩
      · simpa only [List.length_drop] using residue_le hr _
      · exact dbuf_eq_nil_of_before_processing (a := a) hphase hproc
      · exact tag_eq_none_of_not_finalized (a := a) hphase hfin

theorem inv_dataEffect {C : Cfg} (hr : 1 ≤ C.r) {ilen : Nat} (ocap : Nat) {a : Arch} {D : List Byte}
    (hD : D.length = ilen) (ha : a.Inv C) : (dataEffect C ilen ocap a D).1.Inv C := by
  simp only [dataEffect]
  split
  · exact inv_refusedEffect _ ha
  next =>
    split
    · exact inv_refusedEffect _ ha
    next hfin =>
      split
      · exact inv_refusedEffect _ ha
      next =>
        obtain ⟨⟨hst, hkey, hnonce, htag⟩, hphase⟩ := ha
        refine ⟨⟨absorbedMsg_st_length _ _ (messageStart_st_length hst), hkey, hnonce, htag⟩,
          (phaseInv_processing rfl).2
            ⟨abuf_eq_nil_of_closed hphase, ?_, tag_eq_none_of_not_finalized (a := a) hphase hfin⟩⟩
        have hres := dataBlocks_residue hr a.dir a.dbuf.length ilen
        exact dbufBound_iff.2 (by simpa only [List.length_drop, List.length_append, hD] using hres)

theorem inv_finalizedArch {C : Cfg} (hC : C.wellFormed = true) {a : Arch} (st : List Byte) (err : ResultCode) (olen : Nat)
    (ha : a.Inv C) : (finalizedArch C st err olen a).Inv C := by
  obtain ⟨⟨-, hkey, hnonce, -⟩, hphase⟩ := ha
  refine ⟨⟨tagSt_length .., hkey, hnonce, ?_⟩,
    (phaseInv_finalized rfl).2 ⟨abuf_eq_nil_of_closed hphase, rfl, rfl⟩⟩
  rintro T ⟨⟩
  exact tagOf_length hC _ _

theorem inv_finalEncEffect {C : Cfg} (hC : C.wellFormed = true) (ocap : Nat) {a : Arch} (ha : a.Inv C) :
    (finalEncEffect C ocap a).1.Inv C := by
  simp only [finalEncEffect]
  split
  · exact inv_refusedEffect _ ha
  · split
    · exact inv_refusedEffect _ ha
    · split
      · exact inv_refusedEffect _ ha
      · exact inv_finalizedArch hC _ _ _ ha

theorem inv_finalDecEffect {C : Cfg} (hC : C.wellFormed = true) (ocap : Nat) {a : Arch} (ha : a.Inv C) :
    (finalDecEffect C ocap a).1.Inv C := by
  simp only [finalDecEffect]
  split
  · exact inv_refusedEffect _ ha
  · split
    · exact inv_refusedEffect _ ha
    · split
      next =>
        obtain ⟨⟨hst, hkey, hnonce, -⟩, -⟩ := ha
        exact ⟨⟨hst, hkey, hnonce, nofun⟩, (phaseInv_finalized rfl).2 ⟨rfl, rfl, rfl⟩⟩
      next =>
        split
        · exact inv_refusedEffect _ ha
        · split
          · exact inv_finalizedArch hC _ _ _ ha
          · exact inv_finalizedArch hC _ _ _ ha

theorem inv_resetEffect {C : Cfg} {a : Arch} (ha : a.Inv C) : (resetEffect C a).1.Inv C := by
  unfold resetEffect
  split
  · exact inv_refusedEffect _ ha
  · obtain ⟨⟨-, hkey, hnonce, -⟩, -⟩ := ha
    exact ⟨⟨initialSt_length .., hkey, hnonce, nofun⟩, (phaseInv_initialized rfl).2 ⟨rfl, rfl, rfl, rfl⟩⟩

/-- Every command keeps the invariant of the architectural state (R33). -/
theorem inv_commandEffect {C : Cfg} (hC : C.wellFormed = true) (i : Instr) {a : Arch} {op : List Byte}
    (hop : op.length = i.oplen) (ha : a.Inv C) : (commandEffect C i a op).1.Inv C := by
  cases i with
  | initEnc klen nlen => exact inv_initEffect true a hop
  | initDec klen nlen => exact inv_initEffect false a hop
  | aad ilen => exact inv_aadEffect (Cfg.one_le_rate hC) _ ha
  | data ilen ocap =>
    have hD : (op.take ilen).length = ilen := by rw [List.length_take, hop, Instr.oplen, Nat.min_self]
    exact inv_dataEffect (Cfg.one_le_rate hC) ocap hD ha
  | final ocap =>
    rw [commandEffect]
    split
    · exact inv_finalEncEffect hC ocap ha
    · exact inv_finalDecEffect hC ocap ha
  | reset => exact inv_resetEffect ha
  | clear => exact (inv_setStatus .ok 0).2 (inv_zeroiseArch C a)

/-- So does every word, legal or not (R54). -/
theorem inv_wordRule {C : Cfg} (hC : C.wellFormed = true) (w : CmdWord) {a : Arch} {op : List Byte}
    (hop : op.length = wordOplen w) (ha : a.Inv C) : (wordRule C w (Work.start a op)).arch.Inv C := by
  unfold wordOplen at hop
  unfold wordRule
  cases hw : decode w with
  | ok i =>
    rw [hw] at hop
    show (i.rule C (Work.start a op)).arch.Inv C
    rw [rule_arch (Cfg.one_le_rate hC)]
    exact inv_commandEffect hC i hop ha
  | error e => exact (inv_setStatus .illegalCommand 0).2 ha

/-! ### The invariant of the machine -/

theorem inv_resetOf (v : Variant) : (State.resetOf v).Inv := ⟨inv_reset _, rfl⟩

theorem inv_hwReset (s : State) : s.hwReset.Inv := ⟨inv_reset _, rfl⟩

/-- A completed command leaves a good state if what it commits is good. -/
theorem inv_complete {s : State} {a : Arch} (out : List Byte) (ha : a.Inv s.cfg) : (s.complete a out).Inv := ⟨ha, rfl⟩

theorem inv_runCommand_wordRule {w : CmdWord} {s t : State} (ha : s.arch.Inv s.cfg)
    (h : runCommand (wordOplen w) (wordRule s.cfg w) s = .next t) : t.Inv := by
  obtain ⟨supplied, -, rfl⟩ := runCommand_next.1 h
  exact ⟨inv_wordRule s.cfg_wellFormed w (by rw [List.length_take]; omega) ha, rfl⟩

/-- What the output step will commit is good (R50). -/
theorem inv_of_output {s : State} {left : List Byte} {after : Arch} (hs : s.Inv) (h : s.flight = .output left after) :
    s.busy = true ∧ left ≠ [] ∧ after.Inv s.cfg := by
  obtain ⟨-, hflight⟩ := hs
  rwa [State.FlightInv, h] at hflight

theorem inv_of_operand {s : State} {w : CmdWord} {taken : List Byte} (hs : s.Inv) (h : s.flight = .operand w taken) :
    s.busy = true ∧ taken.length ≤ wordOplen w := by
  obtain ⟨-, hflight⟩ := hs
  rwa [State.FlightInv, h] at hflight

theorem inv_step {s t : State} (hs : s.Inv) (h : step s = .next t) : t.Inv := by
  obtain rfl | ⟨left, after, hout, rfl⟩ | rfl | ⟨w, s', hword, hrun⟩ := step_next h
  · exact inv_hwReset s
  · obtain ⟨-, -, hafter⟩ := inv_of_output hs hout
    exact inv_complete left hafter
  · exact hs
  · obtain ⟨hvariant, harch, -⟩ := nextWord_some hword
    refine inv_runCommand_wordRule ?_ hrun
    rw [harch, State.cfg, hvariant]
    exact hs.1

theorem inv_acceptEdge {s : State} (valid : Bool) (hs : s.Inv) : (acceptEdge valid s).Inv := by
  unfold acceptEdge
  split
  · exact hs
  · split
    · exact ⟨hs.1, rfl, Nat.zero_le _⟩
    · exact hs

theorem inv_operandEdge {s : State} (valid : Bool) {w : CmdWord} {taken : List Byte} (hs : s.Inv)
    (hflight : s.flight = .operand w taken) (hlt : taken.length < wordOplen w) :
    (operandEdge valid w taken s).Inv := by
  unfold operandEdge
  split
  · exact hs
  · split
    · exact ⟨hs.1, (inv_of_operand hs hflight).1, by simpa using hlt⟩
    · exact hs

theorem inv_executeEdge {s : State} {w : CmdWord} {taken : List Byte} (hs : s.Inv)
    (hflight : s.flight = .operand w taken) (hfull : ¬taken.length < wordOplen w) : (executeEdge w taken s).Inv := by
  obtain ⟨hbusy, hle⟩ := inv_of_operand hs hflight
  have hafter := inv_wordRule s.cfg_wellFormed w (Nat.le_antisymm hle (Nat.le_of_not_lt hfull)) hs.1
  unfold executeEdge
  dsimp only
  split
  · exact inv_complete [] hafter
  next hout => exact ⟨hs.1, hbusy, hout, hafter⟩

theorem inv_outputEdge {s : State} (ready : Bool) {left : List Byte} {after : Arch} (hs : s.Inv)
    (hflight : s.flight = .output left after) : (outputEdge ready left after s).Inv := by
  obtain ⟨hbusy, -, hafter⟩ := inv_of_output hs hflight
  unfold outputEdge
  split
  · exact inv_complete [] hafter
  · split
    · split
      · exact inv_complete _ hafter
      next hbs => exact ⟨hs.1, hbusy, hbs, hafter⟩
    · exact hs

theorem inv_clockEdge (e : Edge) {s : State} (hs : s.Inv) : (clockEdge e s).Inv := by
  unfold clockEdge
  split
  · exact inv_hwReset s
  · split
    next => exact inv_acceptEdge _ hs
    next w taken hflight =>
      split
      next hlt => exact inv_operandEdge _ hs hflight hlt
      next hfull =>
        split
        · exact inv_executeEdge hs hflight hfull
        · exact hs
    next left after hflight => exact inv_outputEdge _ hs hflight

/-! ### What a command reads and writes of the architectural state -/

/-- ERR and OLEN of earlier commands are read by no command (R29). -/
theorem commandEffect_status_irrelevant (C : Cfg) (i : Instr) (a : Arch) (op : List Byte) (e : ResultCode)
    (m : BitVec 16) : commandEffect C i { a with err := e, olen := m } op = commandEffect C i a op := by
  cases i <;> rfl

/-- The registers that outlive a message: only INIT and CLEAR write them (R23, R27). -/
def Arch.SameSession (a b : Arch) : Prop := b.key = a.key ∧ b.nonce = a.nonce ∧ b.dir = a.dir

theorem initEffect_out (C : Cfg) (dir : Bool) (klen nlen : Nat) (a : Arch) (op : List Byte) :
    (initEffect C dir klen nlen a op).2 = [] := by
  unfold initEffect
  split_ifs <;> rfl

/-- AAD emits nothing and leaves the session, the message residue and the tag (R19). -/
theorem aadEffect_frame (C : Cfg) (a : Arch) (A : List Byte) :
    (aadEffect C a A).2 = [] ∧ a.SameSession (aadEffect C a A).1 ∧
    (aadEffect C a A).1.dbuf = a.dbuf ∧ (aadEffect C a A).1.tag = a.tag := by
  simp only [aadEffect]
  split_ifs <;> exact ⟨rfl, ⟨rfl, rfl, rfl⟩, rfl, rfl⟩

/-- DATA leaves the session and the tag (R19). -/
theorem dataEffect_frame (C : Cfg) (ilen ocap : Nat) (a : Arch) (D : List Byte) :
    a.SameSession (dataEffect C ilen ocap a D).1 ∧ (dataEffect C ilen ocap a D).1.tag = a.tag := by
  simp only [dataEffect]
  split_ifs <;> exact ⟨⟨rfl, rfl, rfl⟩, rfl⟩

theorem finalEncEffect_frame (C : Cfg) (ocap : Nat) (a : Arch) : a.SameSession (finalEncEffect C ocap a).1 := by
  simp only [finalEncEffect]
  split_ifs <;> exact ⟨rfl, rfl, rfl⟩

theorem finalDecEffect_frame (C : Cfg) (ocap : Nat) (a : Arch) : a.SameSession (finalDecEffect C ocap a).1 := by
  simp only [finalDecEffect]
  split_ifs <;> exact ⟨rfl, rfl, rfl⟩

theorem resetEffect_frame (C : Cfg) (a : Arch) :
    (resetEffect C a).2 = [] ∧ a.SameSession (resetEffect C a).1 := by
  unfold resetEffect
  split_ifs <;> exact ⟨rfl, rfl, rfl, rfl⟩

/-! ### What STATUS tells of a command -/

/-- What STATUS shows of the architectural state (R29). -/
def Arch.SameStatus (a b : Arch) : Prop := a.phase = b.phase ∧ a.dir = b.dir ∧ a.err = b.err ∧ a.olen = b.olen

section PublicView

variable {C : Cfg} {a b : Arch}

theorem Arch.publicView_eq_iff :
    a.publicView = b.publicView ↔
      a.phase = b.phase ∧ a.dir = b.dir ∧ a.pending = b.pending ∧ a.abuf.length = b.abuf.length ∧
      a.dbuf.length = b.dbuf.length := by
  simp [Arch.publicView]

/-- An error that keeps the state shows the public view and its code. -/
theorem refusedEffect_sameStatus (e : ResultCode) (hphase : a.phase = b.phase) (hdir : a.dir = b.dir) :
    (refusedEffect e a).1.SameStatus (refusedEffect e b).1 := ⟨hphase, hdir, rfl, rfl⟩

theorem initEffect_sameStatus (dir : Bool) (klen nlen : Nat) (op op' : List Byte) :
    (initEffect C dir klen nlen a op).1.SameStatus (initEffect C dir klen nlen b op').1 := by
  unfold initEffect
  split_ifs <;> exact ⟨rfl, rfl, rfl, rfl⟩

theorem aadEffect_sameStatus (A A' : List Byte) (h : a.publicView = b.publicView) :
    (aadEffect C a A).1.SameStatus (aadEffect C b A').1 := by
  obtain ⟨hphase, hdir, -⟩ := Arch.publicView_eq_iff.1 h
  simp only [aadEffect, hphase]
  split_ifs
  · exact refusedEffect_sameStatus _ hphase hdir
  · exact refusedEffect_sameStatus _ hphase hdir
  · exact ⟨rfl, hdir, rfl, rfl⟩

/-- DATA emits the blocks it drains in full (R71). -/
theorem dataEffect_out_length (hC : C.wellFormed = true) {ilen : Nat} {D : List Byte} (ha : a.st.length = C.S)
    (hD : D.length = ilen) :
    let nb := dataBlocks C a.dir a.dbuf.length ilen
    (absorbedMsg C a.dir (messageStart C a) (blocksOf C.r nb (a.dbuf ++ D))).2.2.length = C.r * nb := by
  intro nb
  have henough : C.r * nb ≤ (a.dbuf ++ D).length := by
    simpa only [List.length_append, hD] using rate_mul_dataBlocks_le C a.dir a.dbuf.length ilen
  rw [absorbedMsg_out_length (Cfg.rate_lt_state hC).le _ (messageStart_st_length ha) (length_of_mem_blocksOf henough),
    blocksOf_length]

theorem dataEffect_sameStatus (hC : C.wellFormed = true) {ilen : Nat} (ocap : Nat) {D D' : List Byte}
    (h : a.publicView = b.publicView) (ha : a.st.length = C.S) (hb : b.st.length = C.S) (hD : D.length = ilen)
    (hD' : D'.length = ilen) :
    (dataEffect C ilen ocap a D).1.SameStatus (dataEffect C ilen ocap b D').1 := by
  obtain ⟨hphase, hdir, -, -, hdbuf⟩ := Arch.publicView_eq_iff.1 h
  have hnb : dataBlocks C a.dir a.dbuf.length ilen = dataBlocks C b.dir b.dbuf.length ilen := by rw [hdir, hdbuf]
  simp only [dataEffect, dataEffect_out_length hC ha hD, dataEffect_out_length hC hb hD']
  simp only [hnb, hphase]
  split_ifs
  · exact refusedEffect_sameStatus _ hphase hdir
  · exact refusedEffect_sameStatus _ hphase hdir
  · exact refusedEffect_sameStatus _ hphase hdir
  all_goals exact ⟨rfl, hdir, rfl, rfl⟩

theorem finalEncEffect_sameStatus (hC : C.wellFormed = true) (ocap : Nat) (h : a.publicView = b.publicView)
    (ha : a.st.length = C.S) (hb : b.st.length = C.S) :
    (finalEncEffect C ocap a).1.SameStatus (finalEncEffect C ocap b).1 := by
  obtain ⟨hphase, hdir, -, -, hdbuf⟩ := Arch.publicView_eq_iff.1 h
  have out_length {c : Arch} (hc : c.st.length = C.S) :
      ((closedMsg C c.dir (messageStart C c) c.dbuf).2 ++
        tagOf C c.key (closedMsg C c.dir (messageStart C c) c.dbuf).1).length = min C.S c.dbuf.length + C.t := by
    rw [List.length_append, closedMsg_out_length _ _ (messageStart_st_length hc), tagOf_length hC]
  simp only [finalEncEffect, out_length ha, out_length hb, hphase, hdbuf]
  split_ifs
  · exact refusedEffect_sameStatus _ hphase hdir
  · exact refusedEffect_sameStatus _ hphase hdir
  · exact refusedEffect_sameStatus _ hphase hdir
  · exact ⟨rfl, hdir, rfl, rfl⟩

/-- With fewer bytes than a tag no tag is compared (R83). -/
theorem finalDecEffect_sameStatus (ocap : Nat) (h : a.publicView = b.publicView) (hshort : a.dbuf.length < C.t) :
    (finalDecEffect C ocap a).1.SameStatus (finalDecEffect C ocap b).1 := by
  obtain ⟨hphase, hdir, -, -, hdbuf⟩ := Arch.publicView_eq_iff.1 h
  have hshort' : b.dbuf.length < C.t := hdbuf ▸ hshort
  simp only [finalDecEffect, if_pos hshort, if_pos hshort', hphase]
  split_ifs
  · exact refusedEffect_sameStatus _ hphase hdir
  · exact refusedEffect_sameStatus _ hphase hdir
  · exact ⟨rfl, hdir, rfl, rfl⟩

theorem resetEffect_sameStatus (h : a.publicView = b.publicView) :
    (resetEffect C a).1.SameStatus (resetEffect C b).1 := by
  obtain ⟨hphase, hdir, -⟩ := Arch.publicView_eq_iff.1 h
  simp only [resetEffect, hphase]
  split_ifs
  · exact refusedEffect_sameStatus _ hphase hdir
  · exact ⟨rfl, hdir, rfl, rfl⟩

/-- Where no tags are compared the public view and the operand's length fix what STATUS will show (R34, R99). -/
theorem commandEffect_sameStatus (hC : C.wellFormed = true) (i : Instr) {op op' : List Byte}
    (h : a.publicView = b.publicView) (ha : a.st.length = C.S) (hb : b.st.length = C.S)
    (hcompare : ∀ ocap, i = .final ocap → a.dir = true ∨ a.dbuf.length < C.t)
    (hop : op.length = i.oplen) (hop' : op'.length = i.oplen) :
    (commandEffect C i a op).1.SameStatus (commandEffect C i b op').1 := by
  obtain ⟨-, hdir, -⟩ := Arch.publicView_eq_iff.1 h
  cases i with
  | initEnc klen nlen => exact initEffect_sameStatus true klen nlen op op'
  | initDec klen nlen => exact initEffect_sameStatus false klen nlen op op'
  | aad ilen => exact aadEffect_sameStatus _ _ h
  | data ilen ocap =>
    have take_length {l : List Byte} (hl : l.length = ilen) : (l.take ilen).length = ilen := by simp [hl]
    exact dataEffect_sameStatus hC ocap h ha hb (take_length hop) (take_length hop')
  | final ocap =>
    simp only [commandEffect, ← hdir]
    split_ifs with henc
    · exact finalEncEffect_sameStatus hC ocap h ha hb
    · exact finalDecEffect_sameStatus ocap h ((hcompare ocap rfl).resolve_left henc)
  | reset => exact resetEffect_sameStatus h
  | clear => exact ⟨rfl, rfl, rfl, rfl⟩

end PublicView

/-! ### The read port -/

theorem readPort_status (s : State) : readPort s 0 = statusWord s := rfl

theorem readPort_param0 (s : State) : readPort s 1 = param0 s.cfg := rfl

theorem readPort_param1 (s : State) : readPort s 2 = param1 s.cfg := rfl

theorem readPort_reserved (s : State) : readPort s 3 = 0 := rfl

/-- Concatenation as a sum of numbers. -/
theorem toNat_append_eq_add {m n : Nat} (x : BitVec m) (y : BitVec n) :
    (x ++ y).toNat = 2 ^ n * x.toNat + y.toNat := by
  rw [BitVec.toNat_append, ← Nat.shiftLeft_add_eq_or_of_lt y.isLt, Nat.shiftLeft_eq, Nat.mul_comm]

/-- STATUS as the sum of its fields (R29). -/
theorem statusWord_toNat (s : State) :
    (statusWord s).toNat =
      s.arch.phase.code.toNat + 2 ^ 3 * s.arch.dir.toNat + 2 ^ 4 * s.busy.toNat + 2 ^ 8 * s.arch.err.code.toNat +
        2 ^ 16 * s.arch.olen.toNat := by
  simp only [statusWord, toNat_append_eq_add, BitVec.toNat_ofBool, BitVec.toNat_ofNat]
  omega

/-- PARAM0 as the sum of its fields (R30). -/
theorem param0_toNat {C : Cfg} (hC : C.wellFormed = true) :
    (param0 C).toNat = C.r + 2 ^ 8 * C.S + 2 ^ 16 * C.t + 2 ^ 24 * C.k := by
  obtain ⟨⟨-, hr, hS⟩, ⟨-, ht⟩, ⟨-, hk⟩, -⟩ := C.wellFormed_iff.1 hC
  simp only [param0, toNat_append_eq_add, BitVec.toNat_ofNat]
  omega

/-- PARAM1 as the sum of its fields (R31). -/
theorem param1_toNat {C : Cfg} (hC : C.wellFormed = true) :
    (param1 C).toNat =
      C.n + 2 ^ 8 * (if C.fullPolicy = .flipDs then 1 else 0) + 2 ^ 9 * (if C.keyInject = .after then 1 else 0) +
        2 ^ 10 * C.perBlockDs.toNat + 2 ^ 24 * C.variantId.toNat := by
  obtain ⟨-, -, -, ⟨-, hn⟩, -⟩ := C.wellFormed_iff.1 hC
  have bit_toNat (p : Prop) [Decidable p] : (decide p).toNat = if p then 1 else 0 := by split <;> simp [*]
  simp only [param1, toNat_append_eq_add, BitVec.toNat_ofBool, BitVec.toNat_ofNat, beq_eq_decide, bit_toNat]
  omega

/-- The read port shows the configuration, `busy` and what STATUS shows of the registers, and nothing else (R34). -/
theorem readPort_congr {s s' : State} (hvariant : s.variant = s'.variant) (harch : s.arch.SameStatus s'.arch)
    (hbusy : s.busy = s'.busy) (rsel : BitVec 2) : readPort s rsel = readPort s' rsel := by
  obtain ⟨hphase, hdir, herr, holen⟩ := harch
  simp only [readPort, statusWord, State.cfg, hvariant, hphase, hdir, herr, holen, hbusy]

theorem readPort_params_of_variant {s t : State} (h : t.variant = s.variant) :
    readPort t 1 = readPort s 1 ∧ readPort t 2 = readPort s 2 := by
  simp only [readPort_param0, readPort_param1, State.cfg, h, and_self]

/-- Setting bit 4 replaces the BUSY field of STATUS and no other. -/
theorem status_fields_or_busy (olen : BitVec 16) (err : BitVec 4) (busy dir : BitVec 1) (phase : BitVec 3) :
    (olen ++ 0#4 ++ err ++ 0#3 ++ busy ++ dir ++ phase) ||| (0#16 ++ 0#4 ++ 0#4 ++ 0#3 ++ 1#1 ++ 0#1 ++ 0#3) =
      olen ++ 0#4 ++ err ++ 0#3 ++ 1#1 ++ dir ++ phase := by
  have hbusy : busy ||| 1#1 = 1#1 := BitVec.or_allOnes
  simp only [BitVec.or_append, BitVec.or_zero, hbusy]

/-- STATUS with BUSY masked tells nothing of `busy` (R29). -/
theorem statusWord_or_busy (s : State) :
    statusWord s ||| 0x10 =
      s.arch.olen ++ 0#4 ++ s.arch.err.code ++ 0#3 ++ 1#1 ++ BitVec.ofBool s.arch.dir ++ s.arch.phase.code :=
  status_fields_or_busy s.arch.olen s.arch.err.code (BitVec.ofBool s.busy) (BitVec.ofBool s.arch.dir) s.arch.phase.code

theorem statusWord_resetOf (v : Variant) : statusWord (State.resetOf v) = 0 :=
  BitVec.eq_of_toNat_eq (statusWord_toNat _)

/-! ### Only completion writes the architectural state -/

theorem acceptEdge_arch (valid : Bool) (s : State) : (acceptEdge valid s).arch = s.arch := by
  unfold acceptEdge
  split
  · rfl
  · split <;> rfl

theorem operandEdge_arch (valid : Bool) (w : CmdWord) (taken : List Byte) (s : State) :
    (operandEdge valid w taken s).arch = s.arch := by
  unfold operandEdge
  split
  · rfl
  · split <;> rfl

theorem executeEdge_arch_of_busy {w : CmdWord} {taken : List Byte} {s : State}
    (h : (executeEdge w taken s).busy = true) : (executeEdge w taken s).arch = s.arch := by
  simp only [executeEdge] at h ⊢
  split at h
  · cases h
  next hout => rw [if_neg hout]

theorem outputEdge_arch_of_busy {ready : Bool} {left : List Byte} {after : Arch} {s : State}
    (h : (outputEdge ready left after s).busy = true) : (outputEdge ready left after s).arch = s.arch := by
  cases left with
  | nil => cases h
  | cons b bs =>
    simp only [outputEdge] at h ⊢
    split_ifs at h ⊢
    · cases h
    · rfl
    · rfl

/-- An edge after which a command is in flight has not touched the architectural state (R36, R50). -/
theorem clockEdge_arch_of_busy (e : Edge) {s : State} (h : (clockEdge e s).busy = true) :
    (clockEdge e s).arch = s.arch := by
  unfold clockEdge at h ⊢
  split at h
  · cases h
  next hrst =>
    rw [if_neg hrst]
    cases hflight : s.flight with
    | idle => exact acceptEdge_arch _ s
    | operand w taken =>
      simp only [hflight] at h ⊢
      split_ifs at h ⊢
      · exact operandEdge_arch _ w taken s
      · exact executeEdge_arch_of_busy h
      · rfl
    | output left after =>
      simp only [hflight] at h ⊢
      exact outputEdge_arch_of_busy h

/-! ### The obligations -/

/-- Settles O20 (R33): a step resets, commits what the output step holds, waits, or runs one word, and each keeps the
invariant. -/
theorem stepKeepsInvariant : Obligations.StepKeepsInvariant := fun _ _ hs h => inv_step hs h

/-- Settles O21: edge by edge, with the rule's effect at the edge that executes. -/
theorem clockEdgeKeepsInvariant : Obligations.ClockEdgeKeepsInvariant := fun e _ hs => inv_clockEdge e hs

/-- Settles O16 (R29): the effect of a command reads neither ERR nor OLEN, and completion overwrites both. -/
theorem resultNotSticky : Obligations.ResultNotSticky := by
  intro i s e m
  rw [exec_eq_deliver, exec_eq_deliver]
  simp only [State.cfg, commandEffect_status_irrelevant]
  rfl

/-- Settles O17 (R29, R50): until it completes a command leaves the architectural state as it was, from any state, so
neither the level of `rst_n` nor the invariant is used. -/
theorem statusHeldWhileBusy : Obligations.StatusHeldWhileBusy := by
  intro e s _ _ hbusy
  simp only [readPort_status, statusWord_or_busy, clockEdge_arch_of_busy e hbusy]

/-- Settles O43 (R19): the frame of each command's effect. -/
theorem commandsWriteOnlyTheirState : Obligations.CommandsWriteOnlyTheirState := by
  intro i s t h
  obtain ⟨-, rfl⟩ := exec_next_effect h
  refine ⟨rfl, rfl, rfl, rfl, rfl, ⟨_, rfl⟩, ?_⟩
  have dout_eq {p : Arch × List Byte} (hp : p.2 = []) : s.dout ++ p.2 = s.dout := by rw [hp, List.append_nil]
  cases i with
  | initEnc klen nlen => exact dout_eq (initEffect_out ..)
  | initDec klen nlen => exact dout_eq (initEffect_out ..)
  | aad ilen =>
    obtain ⟨hout, ⟨hkey, hnonce, hdir⟩, hdbuf, htag⟩ := aadEffect_frame s.cfg s.arch ((s.din.take ilen).take ilen)
    exact ⟨dout_eq hout, hkey, hnonce, hdir, hdbuf, htag⟩
  | data ilen ocap =>
    obtain ⟨⟨hkey, hnonce, hdir⟩, htag⟩ := dataEffect_frame s.cfg ilen ocap s.arch ((s.din.take ilen).take ilen)
    exact ⟨hkey, hnonce, hdir, htag⟩
  | final ocap =>
    simp only [State.done_arch, commandEffect]
    split_ifs
    · exact finalEncEffect_frame s.cfg ocap s.arch
    · exact finalDecEffect_frame s.cfg ocap s.arch
  | reset =>
    obtain ⟨hout, hkey, hnonce, hdir⟩ := resetEffect_frame s.cfg s.arch
    exact ⟨dout_eq hout, hkey, hnonce, hdir⟩
  | clear => exact List.append_nil _

/-- Settles O51 (R34, R99): the effects of a command on two states with one public view show the same STATUS. -/
theorem publicInputsFixStatus : Obligations.PublicInputsFixStatus := by
  intro i s s' t t' hvariant hview hwidths hwidths' hcompare h h'
  have hcfg : s'.cfg = s.cfg := by rw [State.cfg, State.cfg, hvariant]
  obtain ⟨hop, rfl⟩ := exec_next_effect h
  obtain ⟨hop', rfl⟩ := exec_next_effect h'
  rw [hcfg] at hwidths' ⊢
  obtain ⟨hst, -⟩ := hwidths
  obtain ⟨hst', -⟩ := hwidths'
  apply readPort_congr
  · exact hvariant
  · exact commandEffect_sameStatus s.cfg_wellFormed i hview hst hst' hcompare hop hop'
  · rfl

/-- Settles O11 (R35). -/
theorem resetValues : Obligations.ResetValues := by
  intro s hs
  obtain ⟨v, rfl⟩ : ∃ v, s = State.resetOf v := hs.elim (fun h => ⟨.device, h⟩) id
  exact ⟨rfl, rfl, rfl, rfl, rfl, rfl, rfl, rfl, rfl, rfl, rfl, rfl, statusWord_resetOf v, rfl, rfl⟩

/-- Settles O13 (R26, R29, R86). -/
theorem statusLayout : Obligations.StatusLayout := fun s => ⟨statusWord_toNat s, by decide, by decide⟩

/-- Settles O14 (R30, R31): each field has its bits because the configuration is well formed, and no step changes the
configuration. -/
theorem paramRegisters : Obligations.ParamRegisters := fun s =>
  ⟨param0_toNat s.cfg_wellFormed, param1_toNat s.cfg_wellFormed,
    fun _ h => readPort_params_of_variant (step_variant h)⟩

/-- Settles O15 (R32, R34). -/
theorem readPortHidesSecrets : Obligations.ReadPortHidesSecrets :=
  fun s _ hvariant hphase hdir herr holen hbusy =>
    ⟨readPort_congr hvariant ⟨hphase, hdir, herr, holen⟩ hbusy, readPort_reserved s⟩

/-- Settles O19 (R33, R35). -/
theorem invariantAtReset : Obligations.InvariantAtReset := ⟨inv_resetOf .device, inv_resetOf⟩

end Machine
end Sys2Proof

/-! PROOFS about 20_memory R41 and law 3 of 40_datapath R75: a stream's blocks do not depend on where its bytes were cut, so
two AAD commands are one, and two DATA commands are one but for OLEN. -/

namespace Sys2Proof.Machine

/-! ### The blocks of a stream that comes in two parts -/

/-- The first `i` blocks are there already; the next `j` are those of the residue with what comes after it (R18). -/
theorem blocksOf_add {r : Nat} (l' : List Byte) : ∀ {i : Nat} (j : Nat) {l : List Byte}, r * i ≤ l.length →
    blocksOf r (i + j) (l ++ l') = blocksOf r i l ++ blocksOf r j (l.drop (r * i) ++ l')
  | 0, j, l, _ => by simp [blocksOf_zero]
  | i + 1, j, l, h => by
    rw [Nat.mul_succ] at h
    have hrest : r * i ≤ (l.drop r).length := by rw [List.length_drop]; omega
    rw [Nat.succ_add, blocksOf_succ, blocksOf_succ, List.take_append_of_le_length (by omega),
      List.drop_append_of_le_length (by omega), blocksOf_add l' j hrest, List.drop_drop, List.cons_append, Nat.mul_succ,
      Nat.add_comm r]

/-- What is left of such a stream after its first `i + j` blocks. -/
theorem drop_blocks_add {r i : Nat} (l' : List Byte) (j : Nat) {l : List Byte} (h : r * i ≤ l.length) :
    (l ++ l').drop (r * (i + j)) = (l.drop (r * i) ++ l').drop (r * j) := by
  rw [Nat.mul_add, ← List.drop_drop, List.drop_append_of_le_length h]

theorem absorbedAad_append (C : Cfg) (st : List Byte) (pending : Bool) (bs bs' : List (List Byte)) :
    absorbedAad C st pending (bs ++ bs') =
      absorbedAad C (absorbedAad C st pending bs).1 (absorbedAad C st pending bs).2 bs' :=
  List.foldl_append

theorem absorbedMsg_append (C : Cfg) (dir : Bool) (start : List Byte × Bool) (bs bs' : List (List Byte)) :
    absorbedMsg C dir start (bs ++ bs') =
      let p := absorbedMsg C dir start bs
      let p' := absorbedMsg C dir (p.1, p.2.1) bs'
      (p'.1, p'.2.1, p.2.2 ++ p'.2.2) :=
  List.foldl_append.trans (absorbedMsg_foldl C dir bs' _ _ _)

/-! ### Counting the blocks in two parts -/

/-- Complete blocks may be counted before the rest of the stream is there. -/
theorem div_add_residue_div {r : Nat} (hr : 1 ≤ r) (m n : Nat) : (m + n) / r = m / r + (m - r * (m / r) + n) / r := by
  have hsplit : m + n = (m - r * (m / r) + n) + r * (m / r) := by
    have := Nat.mul_div_le m r
    omega
  conv_lhs => rw [hsplit, Nat.add_mul_div_left _ _ hr]
  exact Nat.add_comm _ _

/-- DATA drains as many blocks in two commands as in one (R71): a decrypting DATA keeps back the `t` bytes of a tag both
times. -/
theorem dataBlocks_add {C : Cfg} (hr : 1 ≤ C.r) (dir : Bool) (B m n : Nat) :
    dataBlocks C dir B (m + n) =
      dataBlocks C dir B m + dataBlocks C dir (B + m - C.r * dataBlocks C dir B m) n := by
  cases dir with
  | true => simp only [dataBlocks, if_true, ← Nat.add_assoc, div_add_residue_div hr (B + m) n]
  | false =>
    simp only [dataBlocks, Bool.false_eq_true, if_false, ← Nat.add_assoc]
    by_cases htag : C.t ≤ B + m
    · have hdrained := Nat.mul_div_le (B + m - C.t) C.r
      have hresidue : B + m - C.r * ((B + m - C.t) / C.r) + n - C.t =
          B + m - C.t - C.r * ((B + m - C.t) / C.r) + n := by omega
      rw [if_pos htag, if_pos (by omega), if_pos (by omega), hresidue, ← div_add_residue_div hr,
        Nat.sub_add_comm htag]
    · rw [if_neg htag, Nat.mul_zero, Nat.sub_zero, Nat.zero_add]

/-! ### The effect of two commands in a row -/

/-- AAD's absorbing of `nb` blocks (R80). -/
def aadDrain (C : Cfg) (nb : Nat) (a : Arch) (A : List Byte) : Arch :=
  let total := a.abuf ++ A
  let p := absorbedAad C a.st a.pending (blocksOf C.r nb total)
  { a with phase := .absorbingAad, st := p.1, pending := p.2, abuf := total.drop (C.r * nb), err := .ok, olen := 0 }

/-- Where the AAD stream is open, AAD absorbs every complete block and emits nothing (R80). -/
theorem aadEffect_of_open (C : Cfg) {a : Arch} (A : List Byte) (h : a.aadOpen = true) :
    aadEffect C a A = (aadDrain C ((a.abuf ++ A).length / C.r) a A, []) := by
  cases hphase : a.phase with
  | initialized | absorbingAad => simp [aadEffect, aadDrain, hphase]
  | uninitialized | processing | finalized => simp [Arch.aadOpen, hphase] at h

/-- Where the AAD stream is closed, AAD is refused whatever its bytes (R80). -/
theorem aadEffect_of_closed (C : Cfg) {a : Arch} (h : a.aadOpen = false) :
    ∃ e, ∀ A, aadEffect C a A = refusedEffect e a := by
  cases hphase : a.phase with
  | uninitialized => exact ⟨.notInitialized, fun _ => if_pos hphase⟩
  | processing | finalized => exact ⟨.protocolSequenceError, fun _ => by simp [aadEffect, hphase]⟩
  | initialized | absorbingAad => simp [Arch.aadOpen, hphase] at h

/-- AAD does not read the result of the command before (R29). -/
theorem aadEffect_setStatus (C : Cfg) (a : Arch) (e : ResultCode) (m : Nat) (A : List Byte) :
    aadEffect C (a.setStatus e m) A = aadEffect C a A := rfl

/-- Absorbing `i` blocks and then `j` is absorbing `i + j` (R41). -/
theorem aadDrain_add (C : Cfg) {i : Nat} (j : Nat) {a : Arch} {A : List Byte} (A' : List Byte)
    (h : C.r * i ≤ (a.abuf ++ A).length) :
    aadDrain C j (aadDrain C i a A) A' = aadDrain C (i + j) a (A ++ A') := by
  simp only [aadDrain, ← List.append_assoc, blocksOf_add A' j h, drop_blocks_add A' j h, absorbedAad_append]

/-- Two AAD effects are the effect of the joined bytes (R41). A refused AAD is refused again, with the same result. -/
theorem aadEffect_append {C : Cfg} (hr : 1 ≤ C.r) (a : Arch) (A A' : List Byte) :
    aadEffect C (aadEffect C a A).1 A' = aadEffect C a (A ++ A') := by
  cases hopen : a.aadOpen with
  | true =>
    have hnb : (a.abuf ++ (A ++ A')).length / C.r =
        (a.abuf ++ A).length / C.r +
          ((a.abuf ++ A).drop (C.r * ((a.abuf ++ A).length / C.r)) ++ A').length / C.r := by
      rw [← List.append_assoc, List.length_append, div_add_residue_div hr, ← List.length_drop, ← List.length_append]
    rw [aadEffect_of_open C A hopen, aadEffect_of_open C A' rfl, aadEffect_of_open C (A ++ A') hopen, hnb,
      ← aadDrain_add C _ A' (Nat.mul_div_le _ _)]
    rfl
  | false =>
    obtain ⟨e, hrefused⟩ := aadEffect_of_closed C hopen
    rw [hrefused A, refusedEffect, aadEffect_setStatus, hrefused, hrefused]

/-- What DATA does to the session and to the output when it drains `nb` blocks, result aside (R81). -/
def dataDrain (C : Cfg) (nb : Nat) (a : Arch) (D : List Byte) : Arch × List Byte :=
  let total := a.dbuf ++ D
  let p := absorbedMsg C a.dir (messageStart C a) (blocksOf C.r nb total)
  ({ a with
     phase := .processing, st := p.1, pending := p.2.1, abuf := if a.aadOpen then [] else a.abuf
     dbuf := total.drop (C.r * nb) }, p.2.2)

/-- A DATA that completes with OK has drained the blocks of R71. -/
theorem dataEffect_of_ok {C : Cfg} {ilen ocap : Nat} {a : Arch} {D : List Byte}
    (h : (dataEffect C ilen ocap a D).1.err = .ok) :
    dataEffect C ilen ocap a D =
      let d := dataDrain C (dataBlocks C a.dir a.dbuf.length ilen) a D
      (d.1.setStatus .ok d.2.length, d.2) := by
  revert h
  simp only [dataEffect]
  split
  · exact nofun
  split
  · exact nofun
  split
  · exact nofun
  · exact fun _ => rfl

/-- Draining does not touch the result of the command before (R29). -/
theorem dataDrain_setStatus (C : Cfg) (nb : Nat) (a : Arch) (D : List Byte) (e : ResultCode) (m : Nat) :
    dataDrain C nb (a.setStatus e m) D = ((dataDrain C nb a D).1.setStatus e m, (dataDrain C nb a D).2) := rfl

/-- Draining `i` blocks and then `j` is draining `i + j`: the AAD stream is closed once, the message goes on where it
stood (R41, R67). -/
theorem dataDrain_add (C : Cfg) {i : Nat} (j : Nat) {a : Arch} {D : List Byte} (D' : List Byte)
    (h : C.r * i ≤ (a.dbuf ++ D).length) :
    dataDrain C (i + j) a (D ++ D') =
      let d := dataDrain C i a D
      let d' := dataDrain C j d.1 D'
      (d'.1, d.2 ++ d'.2) := by
  simp only [dataDrain, ← List.append_assoc, blocksOf_add D' j h, drop_blocks_add D' j h, absorbedMsg_append]
  rfl

theorem dataDrain_dbuf_length (C : Cfg) (nb : Nat) (a : Arch) (D : List Byte) :
    (dataDrain C nb a D).1.dbuf.length = a.dbuf.length + D.length - C.r * nb := by
  simp [dataDrain]

/-- Draining what R71 counts, for `m` bytes and then for `n`, is draining what it counts for `m + n`. -/
theorem dataDrain_dataBlocks_add {C : Cfg} (hr : 1 ≤ C.r) {m : Nat} (n : Nat) {a : Arch} {D : List Byte}
    (D' : List Byte) (hD : D.length = m) :
    dataDrain C (dataBlocks C a.dir a.dbuf.length (m + n)) a (D ++ D') =
      let d := dataDrain C (dataBlocks C a.dir a.dbuf.length m) a D
      let d' := dataDrain C (dataBlocks C d.1.dir d.1.dbuf.length n) d.1 D'
      (d'.1, d.2 ++ d'.2) := by
  have hthere : C.r * dataBlocks C a.dir a.dbuf.length m ≤ (a.dbuf ++ D).length := by
    rw [List.length_append, hD]
    exact rate_mul_dataBlocks_le C a.dir a.dbuf.length m
  rw [dataBlocks_add hr, dataDrain_add C _ D' hthere, ← hD, ← dataDrain_dbuf_length]
  rfl

/-! ### Two completed commands in a row -/

theorem State.done_done (s : State) (m n : Nat) (a a' : Arch) (out out' : List Byte) :
    (s.done m a out).done n a' out' = s.done (m + n) a' (out ++ out') := by
  simp [State.done, List.drop_drop, Function.comp_def, Nat.sub_sub]

theorem exec_aad_next {m : Nat} {s t : State} (h : exec (.aad m) s = .next t) :
    t = s.done m (aadEffect s.cfg s.arch (s.din.take m)).1 [] := by
  obtain ⟨-, rfl⟩ := exec_next_effect h
  obtain ⟨hout, -⟩ := aadEffect_frame s.cfg s.arch (s.din.take m)
  simp only [commandEffect, Instr.oplen, List.take_take, Nat.min_self, hout]

/-- A DATA that completes with OK, whatever its capacity. -/
theorem exec_data_next_ok {m ocap : Nat} {s t : State} (h : exec (.data m ocap) s = .next t) (hok : t.arch.err = .ok) :
    (s.din.take m).length = m ∧
    let d := dataDrain s.cfg (dataBlocks s.cfg s.arch.dir s.arch.dbuf.length m) s.arch (s.din.take m)
    t = s.done m (d.1.setStatus .ok d.2.length) d.2 := by
  obtain ⟨hlen, rfl⟩ := exec_next_effect h
  simp only [State.done_arch, commandEffect, Instr.oplen, List.take_take, Nat.min_self] at hlen hok ⊢
  exact ⟨hlen, by rw [dataEffect_of_ok hok]⟩

/-! ### The obligations -/

/-- Settles O52 (R41, R75 law 3): the effects compose, whether the commands complete with OK or not. -/
theorem aadSplitInTwo : Obligations.AadSplitInTwo := by
  intro s t u v m n ht _ hu _ hv
  obtain rfl := exec_aad_next ht
  rw [exec_aad_next hu, exec_aad_next hv, State.done_done, State.done_arch, State.done_cfg, State.done_din,
    aadEffect_append s.one_le_rate, List.take_add]
  rfl

/-- Settles O53 (R41, R75 law 3): the block counts add up, so the drained blocks are the same; only OLEN counts the output of
one command. -/
theorem dataSplitInTwo : Obligations.DataSplitInTwo := by
  intro s t u v m n o o' o'' ht htok hu huok hv hvok
  obtain ⟨hlen, rfl⟩ := exec_data_next_ok ht htok
  obtain ⟨-, rfl⟩ := exec_data_next_ok hu huok
  obtain ⟨-, rfl⟩ := exec_data_next_ok hv hvok
  simp only [State.done_arch, State.done_cfg, State.done_din, State.done_done, dataDrain_setStatus, Arch.setStatus_dir,
    Arch.setStatus_dbuf]
  rw [List.take_add, dataDrain_dataBlocks_add s.one_le_rate n _ hlen]
  rfl

end Sys2Proof.Machine

/-! PROOFS about 30_encoding: a word is its fields, the decoder answers the command whose fields they are, and encoding is its
inverse on well-formed commands; then the lifecycle of a command at the ports, edge by edge, against the whole-command step. -/

namespace Sys2Proof

/-! ### The fields of a word -/

theorem field_eq_div_mod (w : CmdWord) (hi lo : Nat) : field w hi lo = w.toNat / 2 ^ lo % 2 ^ (hi - lo + 1) := by
  rw [field, BitVec.extractLsb_toNat, Nat.shiftRight_eq_div_pow]

theorem field_lt (w : CmdWord) (hi lo : Nat) : field w hi lo < 2 ^ (hi - lo + 1) := BitVec.isLt _

/-- The fields OP, DIR, RSV0, bits 31:16, OCAP and RSV1 make up the word (R51). -/
theorem toNat_eq_fields (w : CmdWord) :
    w.toNat = field w 3 0 + field w 4 4 * 2 ^ 4 + field w 15 5 * 2 ^ 5 + field w 31 16 * 2 ^ 16 +
      field w 47 32 * 2 ^ 32 + field w 63 48 * 2 ^ 48 := by
  have := w.isLt
  simp only [field_eq_div_mod]
  omega

/-- KLEN and NLEN share bits 31:16 with ILEN (R51). -/
theorem field_31_16 (w : CmdWord) : field w 31 16 = field w 23 16 + field w 31 24 * 2 ^ 8 := by
  simp only [field_eq_div_mod]
  omega

theorem field_47_16 (w : CmdWord) : field w 47 16 = field w 31 16 + field w 47 32 * 2 ^ 16 := by
  simp only [field_eq_div_mod]
  omega

/-- Two words are equal iff their fields are. -/
theorem word_eq_iff_fields {w v : CmdWord} :
    w = v ↔ field w 3 0 = field v 3 0 ∧ field w 4 4 = field v 4 4 ∧ field w 15 5 = field v 15 5 ∧
      field w 31 16 = field v 31 16 ∧ field w 47 32 = field v 47 32 ∧ field w 63 48 = field v 63 48 := by
  constructor
  · rintro rfl
    exact ⟨rfl, rfl, rfl, rfl, rfl, rfl⟩
  · rintro ⟨hop, hdir, hrsv0, hlen, hocap, hrsv1⟩
    apply BitVec.eq_of_toNat_eq
    rw [toNat_eq_fields, toNat_eq_fields v, hop, hdir, hrsv0, hlen, hocap, hrsv1]

theorem field_ofNat (n hi lo : Nat) : field (BitVec.ofNat 64 n) hi lo = n % 2 ^ 64 / 2 ^ lo % 2 ^ (hi - lo + 1) := by
  rw [field_eq_div_mod, BitVec.toNat_ofNat]

/-! ### The command whose word it is -/

/-- `w` is the word of `i` as R51 to R53 lay it out: OP and DIR name the command, each operand is its field, and every reserved
field is 0. -/
def IsWordOf (w : CmdWord) (i : Instr) : Prop :=
  field w 15 5 = 0 ∧ field w 63 48 = 0 ∧
  match i with
  | .initEnc klen nlen =>
    field w 3 0 = 1 ∧ field w 4 4 = 1 ∧ field w 47 32 = 0 ∧ klen = field w 23 16 ∧ nlen = field w 31 24
  | .initDec klen nlen =>
    field w 3 0 = 1 ∧ field w 4 4 = 0 ∧ field w 47 32 = 0 ∧ klen = field w 23 16 ∧ nlen = field w 31 24
  | .aad ilen => field w 3 0 = 2 ∧ field w 4 4 = 0 ∧ field w 47 32 = 0 ∧ ilen = field w 31 16
  | .data ilen ocap => field w 3 0 = 3 ∧ field w 4 4 = 0 ∧ ilen = field w 31 16 ∧ ocap = field w 47 32
  | .final ocap => field w 3 0 = 4 ∧ field w 4 4 = 0 ∧ field w 31 16 = 0 ∧ ocap = field w 47 32
  | .reset => field w 3 0 = 5 ∧ field w 4 4 = 0 ∧ field w 31 16 = 0 ∧ field w 47 32 = 0
  | .clear => field w 3 0 = 6 ∧ field w 4 4 = 0 ∧ field w 31 16 = 0 ∧ field w 47 32 = 0

/-- Each branch of the decoder that answers a command has tested the fields of the command's row (R54). -/
theorem isWordOf_of_decode {w : CmdWord} {i : Instr} (h : decode w = .ok i) : IsWordOf w i := by
  have hdir := field_lt w 4 4
  have hlen_ocap := field_47_16 w
  simp only [decode] at h
  split_ifs at h <;> cases h
  all_goals simp only [IsWordOf, and_true]; omega

theorem decode_of_isWordOf {w : CmdWord} {i : Instr} (h : IsWordOf w i) : decode w = .ok i := by
  obtain ⟨hrsv0, hrsv1, hcmd⟩ := h
  cases i with
  | initEnc klen nlen | initDec klen nlen =>
    obtain ⟨hop, hdir, hocap, rfl, rfl⟩ := hcmd
    simp [decode, *]
  | aad ilen =>
    obtain ⟨hop, hdir, hocap, rfl⟩ := hcmd
    simp [decode, *]
  | data ilen ocap =>
    obtain ⟨hop, hdir, rfl, rfl⟩ := hcmd
    simp [decode, *]
  | final ocap =>
    obtain ⟨hop, hdir, hlen, rfl⟩ := hcmd
    simp [decode, *]
  | reset | clear =>
    obtain ⟨hop, hdir, hlen, hocap⟩ := hcmd
    simp [decode, field_47_16, *]

/-- The decoder answers a command exactly on its word (R54). -/
theorem decode_eq_ok_iff {w : CmdWord} {i : Instr} : decode w = .ok i ↔ IsWordOf w i :=
  ⟨isWordOf_of_decode, decode_of_isWordOf⟩

/-! ### Encoding -/

theorem wellFormed_of_isWordOf {w : CmdWord} {i : Instr} (h : IsWordOf w i) : i.wellFormed = true := by
  obtain ⟨-, -, hcmd⟩ := h
  cases i with
  | initEnc klen nlen | initDec klen nlen =>
    obtain ⟨-, -, -, rfl, rfl⟩ := hcmd
    simpa [Instr.wellFormed] using ⟨field_lt w 23 16, field_lt w 31 24⟩
  | aad ilen =>
    obtain ⟨-, -, -, rfl⟩ := hcmd
    simpa [Instr.wellFormed] using field_lt w 31 16
  | data ilen ocap =>
    obtain ⟨-, -, rfl, rfl⟩ := hcmd
    simpa [Instr.wellFormed] using ⟨field_lt w 31 16, field_lt w 47 32⟩
  | final ocap =>
    obtain ⟨-, -, -, rfl⟩ := hcmd
    simpa [Instr.wellFormed] using field_lt w 47 32
  | reset | clear => rfl

/-- A word is the sum of its fields, and the reserved ones add nothing to it. -/
theorem encode_of_isWordOf {w : CmdWord} {i : Instr} (h : IsWordOf w i) : encode i = w := by
  obtain ⟨hrsv0, hrsv1, hcmd⟩ := h
  have hw := toNat_eq_fields w
  have hlen := field_31_16 w
  have hlt := w.isLt
  apply BitVec.eq_of_toNat_eq
  cases i <;> simp only [encode, BitVec.toNat_ofNat] at hcmd ⊢ <;> omega

/-- Operands that fit their fields stay within them. -/
theorem isWordOf_encode {i : Instr} (h : i.wellFormed = true) : IsWordOf (encode i) i := by
  cases i <;> simp only [Instr.wellFormed, Bool.and_eq_true, decide_eq_true_eq] at h <;>
    simp only [IsWordOf, encode, field_ofNat] <;> omega

theorem decode_encode {i : Instr} (h : i.wellFormed = true) : decode (encode i) = .ok i :=
  decode_of_isWordOf (isWordOf_encode h)

/-! ### Words that are no command's -/

/-- The words R52 and R54 refuse: a reserved OP, or a reserved field that is not 0. -/
def IsReserved (w : CmdWord) : Prop :=
  (field w 3 0 = 0 ∨ 7 ≤ field w 3 0) ∨ field w 15 5 ≠ 0 ∨ field w 63 48 ≠ 0 ∨
  (field w 3 0 ≠ 1 ∧ field w 4 4 ≠ 0) ∨
  ((field w 3 0 = 1 ∨ field w 3 0 = 2 ∨ field w 3 0 = 5 ∨ field w 3 0 = 6) ∧ field w 47 32 ≠ 0) ∨
  ((field w 3 0 = 4 ∨ field w 3 0 = 5 ∨ field w 3 0 = 6) ∧ field w 31 16 ≠ 0)

theorem not_isReserved_of_isWordOf {w : CmdWord} {i : Instr} (h : IsWordOf w i) : ¬ IsReserved w := by
  obtain ⟨hrsv0, hrsv1, hcmd⟩ := h
  unfold IsReserved
  cases i <;> simp only at hcmd <;> omega

/-- Every other word is some command's, the one its OP and DIR name. -/
theorem exists_isWordOf_of_not_isReserved {w : CmdWord} (h : ¬ IsReserved w) : ∃ i, IsWordOf w i := by
  have hdir_lt := field_lt w 4 4
  unfold IsReserved at h
  have hop : field w 3 0 = 1 ∨ field w 3 0 = 2 ∨ field w 3 0 = 3 ∨ field w 3 0 = 4 ∨ field w 3 0 = 5 ∨
      field w 3 0 = 6 := by omega
  have hrsv0 : field w 15 5 = 0 := by omega
  have hrsv1 : field w 63 48 = 0 := by omega
  obtain hop | hop | hop | hop | hop | hop := hop
  · have hdir : field w 4 4 = 1 ∨ field w 4 4 = 0 := by omega
    obtain hdir | hdir := hdir
    · exact ⟨.initEnc _ _, hrsv0, hrsv1, hop, hdir, by omega, rfl, rfl⟩
    · exact ⟨.initDec _ _, hrsv0, hrsv1, hop, hdir, by omega, rfl, rfl⟩
  · exact ⟨.aad _, hrsv0, hrsv1, hop, by omega, by omega, rfl⟩
  · exact ⟨.data _ _, hrsv0, hrsv1, hop, by omega, rfl, rfl⟩
  · exact ⟨.final _, hrsv0, hrsv1, hop, by omega, by omega, rfl⟩
  · exact ⟨.reset, hrsv0, hrsv1, hop, by omega, by omega, by omega⟩
  · exact ⟨.clear, hrsv0, hrsv1, hop, by omega, by omega, by omega⟩

theorem exists_decode_eq_error_iff {w : CmdWord} : (∃ e, decode w = .error e) ↔ IsReserved w := by
  constructor
  · rintro ⟨e, he⟩
    by_contra hlegal
    obtain ⟨i, hi⟩ := exists_isWordOf_of_not_isReserved hlegal
    rw [decode_of_isWordOf hi] at he
    cases he
  · intro hreserved
    cases hw : decode w with
    | error e => exact ⟨e, rfl⟩
    | ok i => exact absurd hreserved (not_isReserved_of_isWordOf (isWordOf_of_decode hw))

/-! ### The rows of the opcode table -/

section Row

variable {w m : CmdWord} {hi lo op dir : Nat}

theorem field_and (w m : CmdWord) (hi lo : Nat) : field (w &&& m) hi lo = field w hi lo &&& field m hi lo := by
  simp only [field, BitVec.extractLsb_and, BitVec.toNat_and]

/-- A mask of ones keeps a field. -/
theorem field_and_of_ones (w : CmdWord) (h : field m hi lo = 2 ^ (hi - lo + 1) - 1) :
    field (w &&& m) hi lo = field w hi lo := by
  rw [field_and, h, Nat.and_two_pow_sub_one_of_lt_two_pow (field_lt w hi lo)]

/-- A mask of zeros clears it. -/
theorem field_and_of_zeros (w : CmdWord) (h : field m hi lo = 0) : field (w &&& m) hi lo = 0 := by
  rw [field_and, h, Nat.and_zero]

/-- A match value has an OP and a DIR, and 0 in every other field. -/
theorem eq_match_iff (hop : op < 16) (hdir : dir < 2) :
    w = BitVec.ofNat 64 (op + dir * 2 ^ 4) ↔ field w 3 0 = op ∧ field w 4 4 = dir ∧ field w 15 5 = 0 ∧
      field w 31 16 = 0 ∧ field w 47 32 = 0 ∧ field w 63 48 = 0 := by
  rw [word_eq_iff_fields]
  simp only [field_ofNat]
  omega

/-- The mask of INIT and AAD leaves bits 31:16 out. -/
theorem and_length_mask_eq_iff (hop : op < 16) (hdir : dir < 2) :
    w &&& 0xFFFFFFFF0000FFFF = BitVec.ofNat 64 (op + dir * 2 ^ 4) ↔ field w 3 0 = op ∧ field w 4 4 = dir ∧
      field w 15 5 = 0 ∧ field w 47 32 = 0 ∧ field w 63 48 = 0 := by
  rw [eq_match_iff hop hdir, field_and_of_ones w (lo := 0) (by decide), field_and_of_ones w (lo := 4) (by decide),
    field_and_of_ones w (lo := 5) (by decide), field_and_of_zeros w (lo := 16) (by decide),
    field_and_of_ones w (lo := 32) (by decide), field_and_of_ones w (lo := 48) (by decide), eq_self, true_and]

/-- The mask of DATA leaves bits 31:16 and OCAP out. -/
theorem and_length_capacity_mask_eq_iff (hop : op < 16) (hdir : dir < 2) :
    w &&& 0xFFFF00000000FFFF = BitVec.ofNat 64 (op + dir * 2 ^ 4) ↔ field w 3 0 = op ∧ field w 4 4 = dir ∧
      field w 15 5 = 0 ∧ field w 63 48 = 0 := by
  rw [eq_match_iff hop hdir, field_and_of_ones w (lo := 0) (by decide), field_and_of_ones w (lo := 4) (by decide),
    field_and_of_ones w (lo := 5) (by decide), field_and_of_zeros w (lo := 16) (by decide),
    field_and_of_zeros w (lo := 32) (by decide), field_and_of_ones w (lo := 48) (by decide), eq_self, true_and,
    true_and]

/-- The mask of FINAL leaves OCAP out. -/
theorem and_capacity_mask_eq_iff (hop : op < 16) (hdir : dir < 2) :
    w &&& 0xFFFF0000FFFFFFFF = BitVec.ofNat 64 (op + dir * 2 ^ 4) ↔ field w 3 0 = op ∧ field w 4 4 = dir ∧
      field w 15 5 = 0 ∧ field w 31 16 = 0 ∧ field w 63 48 = 0 := by
  rw [eq_match_iff hop hdir, field_and_of_ones w (lo := 0) (by decide), field_and_of_ones w (lo := 4) (by decide),
    field_and_of_ones w (lo := 5) (by decide), field_and_of_ones w (lo := 16) (by decide),
    field_and_of_zeros w (lo := 32) (by decide), field_and_of_ones w (lo := 48) (by decide), eq_self, true_and]

end Row

/-! ### The obligations about words -/

/-- Settles O6 (R51, R53, R54): the fields of the encoded word are the command's operands, because they fit. -/
theorem decodeEncodeAgree : Obligations.DecodeEncodeAgree := fun _ h => decode_encode h

/-- Settles O3 (R52, R54): a word with no reserved bit set is that of the command its OP and DIR name. -/
theorem illegalWordsAreExactlyReserved : Obligations.IllegalWordsAreExactlyReserved := fun _ =>
  exists_decode_eq_error_iff

/-- Settles O4 (R51, R53): under its mask a row's word has the fields of its match value. -/
theorem decodeFollowsOpcodeTable : Obligations.DecodeFollowsOpcodeTable := by
  intro w a b
  have initEnc_row : w &&& 0xFFFFFFFF0000FFFF = 0x11 ↔ _ :=
    and_length_mask_eq_iff (op := 1) (dir := 1) (by decide) (by decide)
  have initDec_row : w &&& 0xFFFFFFFF0000FFFF = 0x1 ↔ _ :=
    and_length_mask_eq_iff (op := 1) (dir := 0) (by decide) (by decide)
  have aad_row : w &&& 0xFFFFFFFF0000FFFF = 0x2 ↔ _ :=
    and_length_mask_eq_iff (op := 2) (dir := 0) (by decide) (by decide)
  have data_row : w &&& 0xFFFF00000000FFFF = 0x3 ↔ _ :=
    and_length_capacity_mask_eq_iff (op := 3) (dir := 0) (by decide) (by decide)
  have final_row : w &&& 0xFFFF0000FFFFFFFF = 0x4 ↔ _ :=
    and_capacity_mask_eq_iff (op := 4) (dir := 0) (by decide) (by decide)
  have reset_row : w = 0x5 ↔ _ := eq_match_iff (op := 5) (dir := 0) (by decide) (by decide)
  have clear_row : w = 0x6 ↔ _ := eq_match_iff (op := 6) (dir := 0) (by decide) (by decide)
  simp only [decode_eq_ok_iff, IsWordOf]
  refine ⟨?_, ?_, ?_, ?_, ?_, ?_, ?_⟩
  · rw [initEnc_row]; omega
  · rw [initDec_row]; omega
  · rw [aad_row]; omega
  · rw [data_row]; omega
  · rw [final_row]; omega
  · rw [reset_row]; omega
  · rw [clear_row]; omega

/-- Settles O5 (R51): each operand is a field of the word, and no field exceeds its bits. -/
theorem decodedCommandIsWellFormed : Obligations.DecodedCommandIsWellFormed := fun _ _ h =>
  wellFormed_of_isWordOf (isWordOf_of_decode h)

/-- Settles O7 (R51, R52): the fields of a legal word determine it. -/
theorem encodeDecodeAgree : Obligations.EncodeDecodeAgree := fun _ _ h => encode_of_isWordOf (isWordOf_of_decode h)

/-- Settles O8 (R51, R53, R54), by running the decoder on eight closed words. -/
theorem sampleWordsDecode : Obligations.SampleWordsDecode := by
  unfold Obligations.SampleWordsDecode
  decide

/-- Settles O10 (R58): the lengths and the capacity of each line fit their fields, so its word decodes to its command. -/
theorem assembledLinesDecode : Obligations.AssembledLinesDecode := by
  refine ⟨fun K N hK hN => ⟨?_, ?_, rfl, rfl⟩, fun A hA => ⟨?_, rfl⟩, fun D M hD hM => ⟨?_, ?_, rfl, rfl⟩,
    ⟨?_, ?_, rfl, rfl⟩, fun M hM => ⟨?_, ?_, rfl⟩, fun w => ⟨rfl, rfl⟩⟩
  all_goals
    simp only [Asm.assemble, Option.getD_some, Option.getD_none]
    exact decode_encode (by simp [Instr.wellFormed, *])

namespace Machine

/-! ### What one clock edge can do -/

/-- The outcomes of a clock edge out of reset, from a state of the invariant (R49, R50). -/
inductive EdgeOutcome (e : Edge) (s : State) : State → Prop
  /-- Nothing moves. -/
  | stall : EdgeOutcome e s s
  /-- Step 1: a word transfers. -/
  | accept {w : CmdWord} {ws : List CmdWord} (hflight : s.flight = .idle) (hvalid : e.cmdValid = true)
      (hcmdq : s.cmdq = w :: ws) : EdgeOutcome e s { s with cmdq := ws, busy := true, flight := .operand w [] }
  /-- Step 3: an operand byte transfers. -/
  | operandByte {w : CmdWord} {taken : List Byte} {b : Byte} {bs : List Byte} (hflight : s.flight = .operand w taken)
      (hpartial : taken.length < wordOplen w) (hvalid : e.dinValid = true) (hdin : s.din = b :: bs) :
      EdgeOutcome e s { s with din := bs, flight := .operand w (taken ++ [b]) }
  /-- Step 4: the rule has run on the whole operand. -/
  | execute {w : CmdWord} {taken : List Byte} (hflight : s.flight = .operand w taken)
      (hfull : taken.length = wordOplen w) : EdgeOutcome e s (executeEdge w taken s)
  /-- Step 5: an output byte transfers, and others are left. -/
  | outputByte {b : Byte} {bs : List Byte} {after : Arch} (hflight : s.flight = .output (b :: bs) after)
      (hready : e.doutReady = true) (hroom : accepts s.room 1 = true) (hbs : bs ≠ []) :
      EdgeOutcome e s
        { s with dout := s.dout ++ [b], room := s.room.map (· - 1), flight := .output bs after }
  /-- Steps 5 and 6: the last output byte transfers and the command completes. -/
  | lastByte {b : Byte} {after : Arch} (hflight : s.flight = .output [b] after) (hready : e.doutReady = true)
      (hroom : accepts s.room 1 = true) : EdgeOutcome e s (s.complete after [b])

theorem acceptEdge_outcome (e : Edge) {s : State} (hflight : s.flight = .idle) :
    EdgeOutcome e s (acceptEdge e.cmdValid s) := by
  unfold acceptEdge
  split
  · exact .stall
  next hcmdq =>
    split
    next hvalid => exact .accept hflight hvalid hcmdq
    next => exact .stall

theorem operandEdge_outcome (e : Edge) {s : State} {w : CmdWord} {taken : List Byte}
    (hflight : s.flight = .operand w taken) (hpartial : taken.length < wordOplen w) :
    EdgeOutcome e s (operandEdge e.dinValid w taken s) := by
  unfold operandEdge
  split
  · exact .stall
  next hdin =>
    split
    next hvalid => exact .operandByte hflight hpartial hvalid hdin
    next => exact .stall

theorem outputEdge_outcome (e : Edge) {s : State} {left : List Byte} {after : Arch}
    (hflight : s.flight = .output left after) (hleft : left ≠ []) :
    EdgeOutcome e s (outputEdge e.doutReady left after s) := by
  unfold outputEdge
  split
  · contradiction
  next b bs =>
    split
    next hmoves =>
      obtain ⟨hready, hroom⟩ := Bool.and_eq_true_iff.1 hmoves
      split
      next hbs => subst hbs; exact .lastByte hflight hready hroom
      next hbs => exact .outputByte hflight hready hroom hbs
    next => exact .stall

/-- An edge does what the step of the lifecycle it finds can do. -/
theorem clockEdge_outcome (e : Edge) {s : State} (hrst : s.rstN = true) (hs : s.Inv) :
    EdgeOutcome e s (clockEdge e s) := by
  rw [clockEdge, if_neg (by simp [hrst])]
  cases hflight : s.flight with
  | idle => exact acceptEdge_outcome e hflight
  | operand w taken =>
    obtain ⟨-, hle⟩ := inv_of_operand hs hflight
    dsimp only
    split_ifs with hpartial
    · exact operandEdge_outcome e hflight hpartial
    · exact .execute hflight (by omega)
    · exact .stall
  | output left after =>
    obtain ⟨-, hleft, -⟩ := inv_of_output hs hflight
    exact outputEdge_outcome e hflight hleft

/-! ### What the whole-command step does along the lifecycle -/

/-- A run overwrites `busy` and `flight`, and reads neither. -/
theorem runCommand_lifecycle_irrelevant (need : Nat) (rule : Work → Work) (s : State) (busy : Bool) (flight : Flight) :
    runCommand need rule { s with busy := busy, flight := flight } = runCommand need rule s := rfl

/-- The step of a state in its operand step runs the word on the bytes taken and the bytes still presented. -/
theorem step_of_operand {s : State} {w : CmdWord} {taken : List Byte} (hrst : s.rstN = true)
    (hflight : s.flight = .operand w taken) :
    step s = runCommand (wordOplen w) (wordRule s.cfg w) { s with din := taken ++ s.din, flight := .idle } :=
  step_of_nextWord hrst (by rw [nextWord, hflight])

/-- The step of a state with a word presented runs it. -/
theorem step_of_presented {s : State} {w : CmdWord} {ws : List CmdWord} (hrst : s.rstN = true)
    (hflight : s.flight = .idle) (hcmdq : s.cmdq = w :: ws) :
    step s = runCommand (wordOplen w) (wordRule s.cfg w) { s with cmdq := ws } :=
  step_of_nextWord hrst (by rw [nextWord, hflight, hcmdq])

/-- With the operand taken in full, the run delivers what the rule gives. -/
theorem runCommand_of_taken {need : Nat} {rule : Work → Work} {s : State} {taken : List Byte} (h : taken.length = need) :
    runCommand need rule { s with din := taken ++ s.din } =
      deliver (rule (Work.start s.arch taken)).arch (rule (Work.start s.arch taken)).out s := by
  subst h
  simp [runCommand]

/-- Output that is delivered byte by byte is delivered whole. -/
theorem deliver_cons {after : Arch} {b : Byte} {bs : List Byte} {s : State} (hroom : accepts s.room 1 = true)
    (flight : Flight) :
    deliver after bs { s with dout := s.dout ++ [b], room := s.room.map (· - 1), flight := flight } =
      deliver after (b :: bs) s := by
  have haccepts : accepts (s.room.map (· - 1)) bs.length = accepts s.room (b :: bs).length := by
    cases hq : s.room with
    | none => rfl
    | some q =>
      simp only [hq, accepts, decide_eq_true_eq] at hroom
      simp only [Option.map_some, accepts, List.length_cons, decide_eq_decide]
      omega
  simp only [deliver, haccepts]
  simp [State.complete, Function.comp_def, Nat.sub_sub, Nat.add_comm]

/-- What R98 asks of an edge from `s` to `t`: in flight nothing is decided yet, completed it is what the step decides. -/
def EdgeRefines (s t : State) : Prop :=
  (t.flight ≠ .idle → step t = step s) ∧ (s.flight ≠ .idle → t.flight = .idle → step s = .next t)

/-- The edge that executes leaves the rule's output to deliver, or completes where there is none (R50). -/
theorem executeEdge_refines {s : State} {w : CmdWord} {taken : List Byte} (hrst : s.rstN = true)
    (hflight : s.flight = .operand w taken) (hfull : taken.length = wordOplen w) :
    EdgeRefines s (executeEdge w taken s) := by
  have hstep : step s = deliver (wordRule s.cfg w (Work.start s.arch taken)).arch
      (wordRule s.cfg w (Work.start s.arch taken)).out s := by
    rw [step_of_operand hrst hflight, runCommand_lifecycle_irrelevant _ _ { s with din := taken ++ s.din } s.busy .idle]
    exact runCommand_of_taken hfull
  simp only [executeEdge]
  split
  next hout =>
    refine ⟨fun hbusy => absurd rfl hbusy, fun _ _ => ?_⟩
    rw [hstep, hout]
    exact deliver_of_accepts (accepts_zero _)
  next hout =>
    refine ⟨fun _ => ?_, fun _ hidle => nomatch hidle⟩
    rw [hstep]
    exact step_of_output hrst rfl

theorem EdgeOutcome.refines {e : Edge} {s t : State} (h : EdgeOutcome e s t) (hrst : s.rstN = true) :
    EdgeRefines s t := by
  cases h with
  | stall => exact ⟨fun _ => rfl, fun hbusy hidle => absurd hidle hbusy⟩
  | accept hflight _ hcmdq =>
    refine ⟨fun _ => ?_, fun hbusy => absurd hflight hbusy⟩
    rw [step_of_presented hrst hflight hcmdq, ← runCommand_lifecycle_irrelevant _ _ _ true .idle]
    exact step_of_operand (taken := []) hrst rfl
  | @operandByte w taken b bs hflight _ _ hdin =>
    refine ⟨fun _ => ?_, fun _ hidle => nomatch hidle⟩
    rw [step_of_operand hrst hflight, hdin, List.append_cons taken b bs]
    exact step_of_operand hrst rfl
  | execute hflight hfull => exact executeEdge_refines hrst hflight hfull
  | outputByte hflight _ hroom _ =>
    refine ⟨fun _ => ?_, fun _ hidle => nomatch hidle⟩
    rw [step_of_output hrst hflight, ← deliver_cons hroom]
    exact step_of_output hrst rfl
  | lastByte hflight _ hroom =>
    refine ⟨fun hbusy => absurd rfl hbusy, fun _ _ => ?_⟩
    rw [step_of_output hrst hflight]
    exact deliver_of_accepts hroom

/-! ### What an edge moves -/

/-- The rule runs on what the engine has taken; no stream moves (R50 step 4). -/
theorem executeEdge_streams (w : CmdWord) (taken : List Byte) (s : State) :
    (executeEdge w taken s).cmdq = s.cmdq ∧ (executeEdge w taken s).din = s.din ∧
      (executeEdge w taken s).dout = s.dout := by
  simp only [executeEdge]
  split
  · exact ⟨rfl, rfl, List.append_nil _⟩
  · exact ⟨rfl, rfl, rfl⟩

theorem cmdReady_of_idle {s : State} (hrst : s.rstN = true) (hs : s.Inv) (hflight : s.flight = .idle) :
    cmdReady s = true := by
  obtain ⟨-, hbusy⟩ := hs
  simp only [State.FlightInv, hflight] at hbusy
  simp [cmdReady, hrst, hbusy]

theorem dinReady_of_partial {s : State} {w : CmdWord} {taken : List Byte} (hrst : s.rstN = true)
    (hflight : s.flight = .operand w taken) (hpartial : taken.length < wordOplen w) : dinReady s = true := by
  simp [dinReady, hrst, hflight, hpartial]

theorem doutValid_of_output {s : State} {b : Byte} {bs : List Byte} {after : Arch} (hrst : s.rstN = true)
    (hflight : s.flight = .output (b :: bs) after) : doutValid s = true ∧ doutData s = some b := by
  simp [doutValid, doutData, hrst, hflight]

/-! ### The obligations about steps and edges -/

/-- Settles O26 (R36, R50, R98): an edge that transfers a byte hands the rest of the run to the next edge, and the last one
leaves what the run delivers. -/
theorem lifecycleRefinesStep : Obligations.LifecycleRefinesStep := fun e _ hrst hs =>
  (clockEdge_outcome e hrst hs).refines hrst

/-- Settles O18 (R43, R48 to R50): of the three streams an edge moves at most one, the one its lifecycle step is ready for. -/
theorem streamsMoveOnHandshake : Obligations.StreamsMoveOnHandshake := by
  intro e s hrst hs
  have outcome := clockEdge_outcome e hrst hs
  generalize clockEdge e s = t at outcome ⊢
  cases outcome with
  | stall => exact ⟨.inl rfl, .inl rfl, .inl rfl⟩
  | accept hflight hvalid hcmdq =>
    exact ⟨.inr ⟨cmdReady_of_idle hrst hs hflight, hvalid, _, hcmdq⟩, .inl rfl, .inl rfl⟩
  | operandByte hflight hpartial hvalid hdin =>
    exact ⟨.inl rfl, .inr ⟨dinReady_of_partial hrst hflight hpartial, hvalid, _, hdin⟩, .inl rfl⟩
  | execute =>
    obtain ⟨hcmdq, hdin, hdout⟩ := executeEdge_streams ..
    exact ⟨.inl hcmdq, .inl hdin, .inl hdout⟩
  | outputByte hflight hready | lastByte hflight hready =>
    obtain ⟨hvalid, hdata⟩ := doutValid_of_output hrst hflight
    exact ⟨.inl rfl, .inl rfl, .inr ⟨hvalid, hready, _, hdata, rfl⟩⟩

/-- Settles O9 (R55, R87): the operand length of a word is its command's, and a run that completes has taken it. -/
theorem operandTakenInFull : Obligations.OperandTakenInFull := by
  refine ⟨?_, ?_, ?_, ?_, ?_⟩
  · rintro w a b (h | h) <;> rw [wordOplen, h] <;> rfl
  · rintro w a b (h | h) <;> rw [wordOplen, h] <;> rfl
  · rintro w a (h | h | h) <;> rw [wordOplen, h] <;> rfl
  · intro w e h
    rw [wordOplen, h]
  · intro i s t h
    obtain ⟨-, -, rfl⟩ := exec_next.1 h
    rfl

/-- Settles O24 (R54, R56, R87): an illegal word runs the rule of R54, which needs no operand and emits nothing. -/
theorem illegalWordChangesOnlyStatus : Obligations.IllegalWordChangesOnlyStatus := by
  intro s w ws e hrst hflight hcmdq hw
  calc step s
      = completeIllegal { s with cmdq := ws } :=
        (step_of_presented hrst hflight hcmdq).trans (runCommand_of_illegal hw { s with cmdq := ws })
    _ = .next ({ s with cmdq := ws }.done 0 (s.arch.setStatus .illegalCommand 0) []) := completeIllegal_eq _
    _ = _ := by simp [State.done, Arch.setStatus, hflight]

end Machine
end Sys2Proof
/-! PROOFS about 40_datapath: padding, the duplex and the tag comparison byte by byte (R63, R66, R70), the state a session
opens with (R62), output lengths (R71, R74), the permutation schedule of every command (R61), and that neither the cut of
the streams nor the direction changes the result (R75 laws 2 and 3). -/

namespace Sys2Proof

/-! ### Padding (R63) -/

namespace Machine

theorem pad_length {C : Cfg} {res : List Byte} (h : res.length + 1 ≤ C.r) : (pad C res).length = C.r := by
  simp only [pad, List.length_append, List.length_singleton, zeroBytes_length]
  omega

/-- Settles O45 (R63): residue, marker and zeros are the three parts `pad` appends. -/
theorem padFillsBlock : Obligations.PadFillsBlock := by
  intro C res h
  refine ⟨pad_length h, ?_, ?_, fun j hres hr => ?_⟩
  · rw [pad, List.append_assoc, List.take_left]
  · simp [pad]
  · have hzero : j - (res ++ [C.padMarker]).length < C.r - res.length - 1 := by
      rw [List.length_append, List.length_singleton]; omega
    rw [pad, List.getElem?_append_right (by rw [List.length_append, List.length_singleton]; omega), zeroBytes,
      List.getElem?_replicate_of_lt hzero]

end Machine

/-! ### The duplex, byte by byte (R66) -/

/-- What the duplex emits is the state XOR the input (R66). -/
theorem duplexBytes_out (enc : Bool) :
    ∀ st x : List Byte, (duplexBytes enc st x).2 = List.zipWith (· ^^^ ·) st x
  | _, [] => by simp [duplexBytes]
  | [], _ :: _ => rfl
  | _ :: st, _ :: xs => congrArg _ (duplexBytes_out enc st xs)

/-- What the duplex leaves in the state: the ciphertext bytes, then the state bytes it did not reach (R66). -/
theorem duplexBytes_st (enc : Bool) :
    ∀ {st x : List Byte}, x.length ≤ st.length →
      (duplexBytes enc st x).1 = (if enc then (duplexBytes enc st x).2 else x) ++ st.drop x.length
  | _, [], _ => by simp [duplexBytes]
  | _ :: st, _ :: xs, h => by
    have hrest := duplexBytes_st enc (Nat.le_of_succ_le_succ h)
    cases enc <;> simp_all [duplexBytes]

/-- The bytes past the input stay as they are (R66). -/
theorem duplexBytes_st_getElem?_of_le (enc : Bool) :
    ∀ {st x : List Byte} {j : Nat}, x.length ≤ j → (duplexBytes enc st x).1[j]? = st[j]?
  | _, [], _, _ => by rw [duplexBytes]
  | [], _ :: _, _, _ => rfl
  | _ :: st, _ :: xs, j + 1, h => duplexBytes_st_getElem?_of_le enc (st := st) (Nat.le_of_succ_le_succ h)

/-- Decrypting what was encrypted gives the input and the same state back (R75 law 1). -/
theorem duplexBytes_decrypt_encrypt :
    ∀ {st x : List Byte}, x.length ≤ st.length →
      duplexBytes false st (duplexBytes true st x).2 = ((duplexBytes true st x).1, x)
  | _, [], _ => by simp only [duplexBytes]
  | _ :: st, _ :: xs, h => by
    have hrest := duplexBytes_decrypt_encrypt (Nat.le_of_succ_le_succ h)
    simp [duplexBytes, hrest]

/-- Settles O46 (R66). -/
theorem duplexBytewise : Obligations.DuplexBytewise := by
  intro dir st x h
  refine ⟨by rw [Machine.duplexBytes_out_length, Nat.min_eq_right h], duplexBytes_st_length dir st x, fun j u v hu hv => ?_,
    fun j hj => duplexBytes_st_getElem?_of_le dir hj⟩
  have hout : (duplexBytes dir st x).2[j]? = some (u ^^^ v) := by
    rw [duplexBytes_out, List.getElem?_zipWith, hu, hv]
  obtain ⟨hj, -⟩ := List.getElem?_eq_some_iff.1 hv
  refine ⟨hout, ?_⟩
  rw [duplexBytes_st dir h]
  cases dir with
  | true =>
    obtain ⟨hj, -⟩ := List.getElem?_eq_some_iff.1 hout
    simp only [if_true, List.getElem?_append_left hj, hout]
  | false => simp only [Bool.false_eq_true, if_false, List.getElem?_append_left hj, hv]

/-- Settles O47 (R66, R75 law 1). -/
theorem duplexDirectionsAgree : Obligations.DuplexDirectionsAgree := by
  intro st x h
  rw [duplexBytes_decrypt_encrypt h]
  exact ⟨rfl, rfl⟩

/-! ### The tag comparison (R70) -/

/-- An OR of bytes is 0 iff each of them is. -/
theorem foldl_or_eq_zero_iff (l : List Byte) (acc : Byte) :
    l.foldl (· ||| ·) acc = 0 ↔ acc = 0 ∧ ∀ b ∈ l, b = 0 := by
  induction l generalizing acc with
  | nil => simp
  | cons b l ih =>
    rw [List.foldl_cons, ih, List.forall_mem_cons, ← and_assoc]
    exact and_congr_left' BitVec.or_eq_zero_iff

/-- The byte differences of two lists of one length are all 0 iff the lists are equal. -/
theorem zipWith_xor_all_zero_iff :
    ∀ {a b : List Byte}, a.length = b.length → ((∀ d ∈ List.zipWith (· ^^^ ·) a b, d = 0) ↔ a = b)
  | [], [], _ => by simp
  | _ :: a, _ :: b, h => by
    rw [List.zipWith_cons_cons, List.forall_mem_cons, zipWith_xor_all_zero_iff (Nat.succ.inj h), List.cons.injEq]
    exact and_congr_left' BitVec.xor_eq_zero_iff

/-- Settles O48 (R70): the accumulator is 0 iff every byte difference is. -/
theorem tagEqualIsEquality : Obligations.TagEqualIsEquality := by
  intro a b h
  rw [tagEqual, beq_iff_eq, tagDifference, foldl_or_eq_zero_iff, zipWith_xor_all_zero_iff h]
  exact and_iff_right rfl

end Sys2Proof

namespace Sys2Proof.Machine

/-! ### Commands fed one after another (R41, R44) -/

/-- `s` after commands that have taken every byte presented to them: `a` committed, `out` delivered, nothing left on `din`. -/
def State.fed (s : State) (a : Arch) (out : List Byte) : State := { s with din := [] }.done 0 a out

@[simp] theorem State.fed_arch (s : State) (a : Arch) (out : List Byte) : (s.fed a out).arch = a := rfl
@[simp] theorem State.fed_cfg (s : State) (a : Arch) (out : List Byte) : (s.fed a out).cfg = s.cfg := rfl

/-- A command whose operand is exactly what is presented leaves nothing on `din`. -/
theorem State.done_eq_fed (s : State) (c : List Byte) (a : Arch) (out : List Byte) :
    { s with din := c }.done c.length a out = s.fed a out := by
  simp [State.done, State.fed]

theorem State.fed_fed (s : State) (a a' : Arch) (out out' : List Byte) :
    (s.fed a out).fed a' out' = s.fed a' (out ++ out') := State.done_done { s with din := [] } 0 0 a a' out out'

/-- The first of the fed commands completes with OK if the last one does, because feeding ends at an error. -/
theorem feed_cons_ok {mk : Nat → Instr} {c : List Byte} {cs : List (List Byte)} {s t : State}
    (h : feed mk (c :: cs) s = .next t) (hok : t.arch.err = .ok) :
    ∃ u, exec (mk c.length) { s with din := c } = .next u ∧ u.arch.err = .ok ∧ feed mk cs u = .next t := by
  rw [feed] at h
  split at h
  next u hexec =>
    split_ifs at h with herr
    · exact ⟨u, hexec, herr, h⟩
    · cases h; exact absurd hok herr
  all_goals cases h

/-- AAD commands do what one AAD with all their bytes does (R41). -/
theorem feed_aad {as : List (List Byte)} {s t : State} (has : as ≠ []) (h : feed .aad as s = .next t)
    (hok : t.arch.err = .ok) : t = s.fed (aadEffect s.cfg s.arch as.flatten).1 [] := by
  induction as generalizing s with
  | nil => exact absurd rfl has
  | cons c cs ih =>
    obtain ⟨u, hexec, -, hrest⟩ := feed_cons_ok h hok
    have hu : u = s.fed (aadEffect s.cfg s.arch c).1 [] := by
      rw [exec_aad_next hexec, State.done_eq_fed, List.take_length]
      rfl
    cases cs with
    | nil => cases hrest; simpa using hu
    | cons c' cs =>
      rw [ih (by simp) hrest, hu, State.fed_fed, State.fed_cfg, State.fed_arch, aadEffect_append s.one_le_rate]
      rfl

/-- What a message session does with the bytes `D`: the blocks of R71 drained. -/
def dataStream (C : Cfg) (a : Arch) (D : List Byte) : Arch × List Byte :=
  dataDrain C (dataBlocks C a.dir a.dbuf.length D.length) a D

theorem dataStream_setStatus (C : Cfg) (a : Arch) (D : List Byte) (e : ResultCode) (m : Nat) :
    dataStream C (a.setStatus e m) D = ((dataStream C a D).1.setStatus e m, (dataStream C a D).2) := rfl

/-- The bytes of two operands are drained as those of one (R41). -/
theorem dataStream_append {C : Cfg} (hr : 1 ≤ C.r) (a : Arch) (D D' : List Byte) :
    dataStream C a (D ++ D') =
      ((dataStream C (dataStream C a D).1 D').1, (dataStream C a D).2 ++ (dataStream C (dataStream C a D).1 D').2) := by
  rw [dataStream, List.length_append]
  exact dataDrain_dataBlocks_add hr _ D' rfl

/-- DATA commands that complete with OK do what one DATA with all their bytes does; OLEN counts the last one's output (R41). -/
theorem feed_data {ds : List (List Byte)} {ocap : Nat} {s t : State} (hds : ds ≠ [])
    (h : feed (.data · ocap) ds s = .next t) (hok : t.arch.err = .ok) :
    ∃ olen, t = s.fed ((dataStream s.cfg s.arch ds.flatten).1.setStatus .ok olen)
      (dataStream s.cfg s.arch ds.flatten).2 := by
  induction ds generalizing s with
  | nil => exact absurd rfl hds
  | cons d ds ih =>
    obtain ⟨u, hexec, huok, hrest⟩ := feed_cons_ok h hok
    have hu : u = s.fed ((dataStream s.cfg s.arch d).1.setStatus .ok (dataStream s.cfg s.arch d).2.length)
        (dataStream s.cfg s.arch d).2 := by
      obtain ⟨-, rfl⟩ := exec_data_next_ok hexec huok
      dsimp only
      rw [State.done_eq_fed, List.take_length]
      rfl
    cases ds with
    | nil => cases hrest; exact ⟨_, by simpa using hu⟩
    | cons d' ds =>
      obtain ⟨olen, ht⟩ := ih (by simp) hrest
      refine ⟨olen, ?_⟩
      rw [ht, hu, State.fed_fed, State.fed_cfg, State.fed_arch, dataStream_setStatus,
        List.flatten_cons (l := d), dataStream_append s.one_le_rate s.arch d]
      rfl

/-- Settles O54 (R41, R75 law 3): each side is one AAD and one DATA with the bytes of all its commands. -/
theorem streamingEquivalence : Obligations.StreamingEquivalence := by
  intro s t t' u u' as as' ds ds' ocap has has' hA hds hds' hD ht htok ht' htok' hu huok hu' huok'
  obtain rfl : t = t' := by rw [feed_aad has ht htok, feed_aad has' ht' htok', hA]
  obtain ⟨olen, rfl⟩ := feed_data hds hu huok
  obtain ⟨olen', rfl⟩ := feed_data hds' hu' huok'
  rw [hD]
  exact ⟨rfl, rfl, rfl⟩

end Sys2Proof.Machine

namespace Sys2Proof

/-! ### Cutting a long operand (R59) -/

theorem splitOperand_ne_nil (fuel : Nat) (l : List Byte) : splitOperand fuel l ≠ [] := by
  cases fuel with
  | zero => simp [splitOperand]
  | succ fuel => rw [splitOperand]; split <;> simp

/-- The pieces are the operand (R59). -/
theorem splitOperand_flatten (fuel : Nat) (l : List Byte) : (splitOperand fuel l).flatten = l := by
  induction fuel generalizing l with
  | zero => simp [splitOperand]
  | succ fuel ih =>
    rw [splitOperand]
    split
    · simp
    · rw [List.flatten_cons, ih, List.take_append_drop]

/-- With a turn of fuel per byte no piece is longer than `pieceLength`. -/
theorem length_le_of_mem_splitOperand {fuel : Nat} {l : List Byte} (hfuel : l.length ≤ fuel) :
    ∀ d ∈ splitOperand fuel l, d.length ≤ pieceLength := by
  induction fuel generalizing l with
  | zero =>
    rw [splitOperand, List.forall_mem_singleton]
    exact hfuel.trans (Nat.zero_le _)
  | succ fuel ih =>
    rw [splitOperand]
    split
    next hshort => simpa using hshort
    next =>
      rw [List.forall_mem_cons]
      exact ⟨List.length_take_le _ _, ih (by rw [List.length_drop, pieceLength]; omega)⟩

theorem operandPieces_ne_nil (l : List Byte) : operandPieces l ≠ [] := by
  unfold operandPieces
  split
  · simp
  · exact splitOperand_ne_nil _ l

theorem operandPieces_flatten (l : List Byte) : (operandPieces l).flatten = l := by
  unfold operandPieces
  split
  · simp
  · exact splitOperand_flatten _ l

/-- Every piece fits ILEN (R51, R59). -/
theorem length_le_of_mem_operandPieces (l : List Byte) : ∀ d ∈ operandPieces l, d.length ≤ 65535 := by
  unfold operandPieces
  split
  next hshort => simpa using hshort
  next => exact fun d hd => (length_le_of_mem_splitOperand (Nat.le_refl _) d hd).trans (by decide)

namespace Machine

/-! ### Running a presented program -/

/-- The line assembles to the word of `i` and supplies its whole operand (R58). -/
def LineIs (l : Asm) (i : Instr) : Prop := decode l.assemble = .ok i ∧ i.oplen = l.operand.length

theorem lineIs_initEnc {K N : List Byte} (hK : K.length < 256) (hN : N.length < 256) :
    LineIs (.initEnc K N) (.initEnc K.length N.length) := by
  obtain ⟨hinit, -⟩ := assembledLinesDecode
  obtain ⟨hdec, -, -, -⟩ := hinit K N hK hN
  exact ⟨hdec, List.length_append.symm⟩

theorem lineIs_initDec {K N : List Byte} (hK : K.length < 256) (hN : N.length < 256) :
    LineIs (.initDec K N) (.initDec K.length N.length) := by
  obtain ⟨hinit, -⟩ := assembledLinesDecode
  obtain ⟨-, hdec, -, -⟩ := hinit K N hK hN
  exact ⟨hdec, List.length_append.symm⟩

theorem lineIs_aad {A : List Byte} (hA : A.length ≤ 65535) : LineIs (.aad A) (.aad A.length) := by
  obtain ⟨-, haad, -⟩ := assembledLinesDecode
  obtain ⟨hdec, -⟩ := haad A (Nat.lt_succ_of_le hA)
  exact ⟨hdec, rfl⟩

theorem lineIs_data {D : List Byte} (hD : D.length ≤ 65535) : LineIs (.data D none) (.data D.length 65535) := by
  obtain ⟨-, -, hdata, -⟩ := assembledLinesDecode
  obtain ⟨-, hdec, -, -⟩ := hdata D 0 (Nat.lt_succ_of_le hD) (by decide)
  exact ⟨hdec, rfl⟩

theorem lineIs_final : LineIs (.final none) (.final 65535) := by
  obtain ⟨-, -, -, -, hfinal, -⟩ := assembledLinesDecode
  obtain ⟨-, hdec, -⟩ := hfinal 0 (by decide)
  exact ⟨hdec, rfl⟩

/-- An engine between two commands, with `program` presented and `out` delivered (R44). -/
def State.awaiting (v : Variant) (a : Arch) (out : List Byte) (program : List Asm) : State :=
  { State.resetOf v with
    arch := a, dout := out, cmdq := program.map Asm.assemble, din := program.flatMap Asm.operand }

theorem present_resetOf (v : Variant) (program : List Asm) :
    (State.resetOf v).present program = State.awaiting v (Arch.reset v.cfg) [] program := rfl

/-- One step runs the first line (R98). -/
theorem step_awaiting {l : Asm} {i : Instr} (h : LineIs l i) (v : Variant) (a : Arch) (out : List Byte)
    (ls : List Asm) :
    step (State.awaiting v a out (l :: ls)) =
      let p := commandEffect v.cfg i a l.operand
      .next (State.awaiting v p.1 (out ++ p.2) ls) := by
  obtain ⟨hdec, hlen⟩ := h
  have hdin : (State.awaiting v a out (l :: ls)).din = l.operand ++ ls.flatMap Asm.operand := rfl
  calc step (State.awaiting v a out (l :: ls))
      = exec i { State.awaiting v a out (l :: ls) with cmdq := ls.map Asm.assemble } :=
        (step_of_presented rfl rfl rfl).trans (runCommand_of_legal hdec _)
    _ = deliver _ _ { State.awaiting v a out ls with din := ls.flatMap Asm.operand } := by
        rw [exec_eq_deliver, if_pos (by simp [hdin, hlen])]
        simp only [hdin, hlen, List.take_left, List.drop_left]
        rfl
    _ = _ := deliver_of_accepts (accepts_none _)

/-- The lines of a program, run one after another from `a`, leave `b` and emit `out`. -/
inductive ProgramRuns (C : Cfg) : List Asm → Arch → Arch → List Byte → Prop
  | nil (a : Arch) : ProgramRuns C [] a a []
  | cons {l : Asm} {i : Instr} {ls : List Asm} {a b : Arch} {out : List Byte} (line : LineIs l i)
      (rest : ProgramRuns C ls (commandEffect C i a l.operand).1 b out) :
      ProgramRuns C (l :: ls) a b ((commandEffect C i a l.operand).2 ++ out)

theorem ProgramRuns.single {C : Cfg} {l : Asm} {i : Instr} {a b : Arch} {out : List Byte} (line : LineIs l i)
    (effect : commandEffect C i a l.operand = (b, out)) : ProgramRuns C [l] a b out := by
  have h := ProgramRuns.cons line (.nil (commandEffect C i a l.operand).1)
  rwa [effect, List.append_nil] at h

theorem ProgramRuns.append {C : Cfg} {ls ls' : List Asm} {a b c : Arch} {out out' : List Byte}
    (h : ProgramRuns C ls a b out) (h' : ProgramRuns C ls' b c out') : ProgramRuns C (ls ++ ls') a c (out ++ out') := by
  induction h with
  | nil => exact h'
  | cons line _ ih => rw [List.append_assoc]; exact .cons line (ih h')

theorem run_succ_of_step {M : Host.Core} {s t : M.State} (h : M.step s = .next t) (k : Nat) :
    M.run (k + 1) s = M.run k t := by
  rw [Host.Core.run, h]

/-- The engine runs a presented program line by line (R98). -/
theorem run_awaiting {v : Variant} {program : List Asm} {a b : Arch} {out : List Byte}
    (h : ProgramRuns v.cfg program a b out) (before : List Byte) :
    Host.Core.run Sys2Proof.core program.length (State.awaiting v a before program) =
      .next (State.awaiting v b (before ++ out) []) := by
  induction h generalizing before with
  | nil a => rw [List.append_nil]; rfl
  | @cons l i ls a b out line _ ih =>
    rw [← List.append_assoc]
    have hstep : Sys2Proof.core.step (State.awaiting v a before (l :: ls)) = .next _ := step_awaiting line v a before ls
    exact (run_succ_of_step hstep ls.length).trans (ih _)

/-! ### The lines that open a session -/

/-- The session INIT opens with key and nonce (R77). -/
def openedArch (C : Cfg) (dir : Bool) (K N : List Byte) : Arch :=
  { phase := .initialized, dir := dir, st := initialSt C K N, key := K, nonce := N, abuf := [], dbuf := [],
    pending := false, tag := none, err := .ok, olen := 0 }

theorem initEffect_of_lengths {C : Cfg} (dir : Bool) {K N : List Byte} (hK : K.length = C.k) (hN : N.length = C.n)
    (a : Arch) : initEffect C dir K.length N.length a (K ++ N) = (openedArch C dir K N, []) := by
  simp [initEffect, hK, hN, openedArch, List.take_of_length_le]

/-- The session with the associated data in; with none there is no AAD line (R59). -/
def sessionArch (C : Cfg) (dir : Bool) (K N A : List Byte) : Arch :=
  if A = [] then openedArch C dir K N else (aadEffect C (openedArch C dir K N) A).1

/-- AAD lines do what one AAD with all their bytes does (R41). -/
theorem programRuns_aad {C : Cfg} (hr : 1 ≤ C.r) {as : List (List Byte)} (has : as ≠ [])
    (hlen : ∀ c ∈ as, c.length ≤ 65535) (a : Arch) :
    ProgramRuns C (as.map .aad) a (aadEffect C a as.flatten).1 [] := by
  induction as generalizing a with
  | nil => exact absurd rfl has
  | cons c cs ih =>
    rw [List.forall_mem_cons] at hlen
    obtain ⟨hc, hcs⟩ := hlen
    have first_line : ProgramRuns C [.aad c] a (aadEffect C a c).1 [] := by
      refine .single (lineIs_aad hc) ?_
      obtain ⟨hout, -⟩ := aadEffect_frame C a c
      rw [commandEffect, Asm.operand, List.take_length, ← hout]
    cases cs with
    | nil => simpa using first_line
    | cons c' cs =>
      rw [List.flatten_cons, ← aadEffect_append hr]
      exact first_line.append (ih (by simp) hcs _)

theorem programRuns_aadLines {C : Cfg} (hr : 1 ≤ C.r) (dir : Bool) (K N A : List Byte) :
    ProgramRuns C (aadLines A) (openedArch C dir K N) (sessionArch C dir K N A) [] := by
  unfold aadLines sessionArch
  split
  · exact .nil _
  · have h := programRuns_aad hr (operandPieces_ne_nil A) (length_le_of_mem_operandPieces A) (openedArch C dir K N)
    rwa [operandPieces_flatten] at h

/-! ### The message stream of a session -/

/-- Where a message stream stands: its session's direction and key, the state and pending flag it goes on from, and the bytes it
has buffered. -/
structure MessageAt (C : Cfg) (dir : Bool) (key : List Byte) (start : List Byte × Bool) (buffered : List Byte)
    (a : Arch) : Prop where
  running : a.aadOpen = true ∨ a.phase = .processing
  dir_eq : a.dir = dir
  key_eq : a.key = key
  start_eq : messageStart C a = start
  dbuf_eq : a.dbuf = buffered

/-- The message stream of a session starts from key, nonce and associated data, whatever the direction (R65, R81). -/
def sessionStart (C : Cfg) (K N A : List Byte) : List Byte × Bool := messageStart C (sessionArch C true K N A)

theorem messageAt_session (C : Cfg) (dir : Bool) (K N A : List Byte) :
    MessageAt C dir K (sessionStart C K N A) [] (sessionArch C dir K N A) := by
  unfold sessionStart sessionArch
  split
  · exact ⟨.inl rfl, rfl, rfl, rfl, rfl⟩
  · rw [aadEffect_of_open C A rfl, aadEffect_of_open C A rfl]
    exact ⟨.inl rfl, rfl, rfl, rfl, rfl⟩

theorem sessionStart_st_length (C : Cfg) (K N A : List Byte) : (sessionStart C K N A).1.length = C.S := by
  have hopen : (sessionArch C true K N A).aadOpen = true := by
    unfold sessionArch
    split
    · rfl
    · rw [aadEffect_of_open C A rfl]; rfl
  rw [sessionStart, messageStart, if_pos hopen]
  exact closedAadSt_length ..

theorem MessageAt.not_refused {C : Cfg} {dir : Bool} {key : List Byte} {start : List Byte × Bool} {buffered : List Byte}
    {a : Arch} (h : MessageAt C dir key start buffered a) : a.phase ≠ .uninitialized ∧ a.phase ≠ .finalized := by
  have hrunning := h.running
  constructor <;> intro hphase <;> simp [Arch.aadOpen, hphase] at hrunning

/-- DATA moves the message stream on by the blocks it drains (R81). -/
theorem MessageAt.after_data {C : Cfg} {dir : Bool} {key : List Byte} {start : List Byte × Bool} {buffered : List Byte}
    {a : Arch} (h : MessageAt C dir key start buffered a) (D : List Byte) (e : ResultCode) (m : Nat) :
    let nb := dataBlocks C dir buffered.length D.length
    let p := absorbedMsg C dir start (blocksOf C.r nb (buffered ++ D))
    MessageAt C dir key (p.1, p.2.1) ((buffered ++ D).drop (C.r * nb)) ((dataStream C a D).1.setStatus e m) ∧
      (dataStream C a D).2 = p.2.2 := by
  obtain ⟨-, rfl, rfl, rfl, rfl⟩ := h
  exact ⟨⟨.inr rfl, rfl, rfl, rfl, rfl⟩, rfl⟩

end Machine
end Sys2Proof

namespace Sys2Proof.Machine

/-! ### DATA lines -/

/-- A DATA whose drained blocks fit OCAP completes with OK (R81). -/
theorem dataEffect_of_fits {C : Cfg} {ocap : Nat} {a : Arch} {D : List Byte} (huninit : a.phase ≠ .uninitialized)
    (hfin : a.phase ≠ .finalized) (hcap : C.r * dataBlocks C a.dir a.dbuf.length D.length ≤ ocap) :
    dataEffect C D.length ocap a D =
      ((dataStream C a D).1.setStatus .ok (dataStream C a D).2.length, (dataStream C a D).2) := by
  refine dataEffect_of_ok ?_
  simp only [dataEffect, if_neg huninit, if_neg hfin, if_neg (Nat.not_lt_of_le hcap)]

theorem programRuns_dataLine {C : Cfg} {a : Arch} {D : List Byte} (huninit : a.phase ≠ .uninitialized)
    (hfin : a.phase ≠ .finalized) (hlen : D.length ≤ 65535)
    (hcap : C.r * dataBlocks C a.dir a.dbuf.length D.length ≤ 65535) :
    ProgramRuns C [.data D none] a ((dataStream C a D).1.setStatus .ok (dataStream C a D).2.length)
      (dataStream C a D).2 := by
  refine .single (lineIs_data hlen) ?_
  rw [commandEffect, Asm.operand, List.take_length, dataEffect_of_fits huninit hfin hcap]

/-- On top of the residue R24 admits, a piece of `pieceLength` bytes never drains more than OCAP can say. -/
theorem drained_le_of_piece {C : Cfg} (hC : C.wellFormed = true) {a : Arch} {m : Nat} (ha : a.DbufBound C)
    (hm : m ≤ pieceLength) : C.r * dataBlocks C a.dir a.dbuf.length m ≤ 65535 := by
  obtain ⟨⟨hr, hrS, hS⟩, -⟩ := C.wellFormed_iff.1 hC
  have hbound := dbufBound_iff.1 ha
  unfold pieceLength at hm
  unfold dataBlocks
  cases hdir : a.dir with
  | true =>
    simp only [hdir, if_true] at hbound ⊢
    have hdrained := Nat.mul_div_le (a.dbuf.length + m) C.r
    omega
  | false =>
    simp only [hdir, Bool.false_eq_true, if_false] at hbound ⊢
    split
    · have hdrained := Nat.mul_div_le (a.dbuf.length + m - C.t) C.r
      omega
    · simp

/-- DATA keeps to R24's bound. -/
theorem dbufBound_dataStream {C : Cfg} (hr : 1 ≤ C.r) (a : Arch) (D : List Byte) :
    (dataStream C a D).1.DbufBound C := by
  rw [dbufBound_iff, dataStream, dataDrain_dbuf_length]
  exact dataBlocks_residue hr a.dir a.dbuf.length D.length

/-- DATA lines of at most `pieceLength` bytes do what one DATA with all their bytes does (R41). -/
theorem programRuns_data {C : Cfg} (hC : C.wellFormed = true) {ds : List (List Byte)} (hds : ds ≠ [])
    (hlen : ∀ d ∈ ds, d.length ≤ pieceLength) {a : Arch} (huninit : a.phase ≠ .uninitialized)
    (hfin : a.phase ≠ .finalized) (ha : a.DbufBound C) :
    ∃ olen, ProgramRuns C (ds.map (.data · none)) a ((dataStream C a ds.flatten).1.setStatus .ok olen)
      (dataStream C a ds.flatten).2 := by
  have hr := Cfg.one_le_rate hC
  induction ds generalizing a with
  | nil => exact absurd rfl hds
  | cons d ds ih =>
    rw [List.forall_mem_cons] at hlen
    obtain ⟨hd, hrest⟩ := hlen
    have first_line := programRuns_dataLine huninit hfin (hd.trans (by decide)) (drained_le_of_piece hC ha hd)
    cases ds with
    | nil => exact ⟨_, by simpa using first_line⟩
    | cons d' ds =>
      obtain ⟨olen, other_lines⟩ := ih (by simp) hrest
        (a := (dataStream C a d).1.setStatus .ok (dataStream C a d).2.length) nofun nofun
        (dbufBound_dataStream hr a d)
      refine ⟨olen, ?_⟩
      rw [List.flatten_cons (l := d), dataStream_append hr a d]
      exact first_line.append other_lines

/-- So do the lines an operand is cut into, whatever its length, where nothing is buffered yet (R59). -/
theorem programRuns_operandPieces {C : Cfg} (hC : C.wellFormed = true) {a : Arch} (huninit : a.phase ≠ .uninitialized)
    (hfin : a.phase ≠ .finalized) (hdbuf : a.dbuf = []) (D : List Byte) :
    ∃ olen, ProgramRuns C ((operandPieces D).map (.data · none)) a ((dataStream C a D).1.setStatus .ok olen)
      (dataStream C a D).2 := by
  unfold operandPieces
  split
  next hshort =>
    refine ⟨_, programRuns_dataLine huninit hfin hshort ?_⟩
    have hdrained := rate_mul_dataBlocks_le C a.dir a.dbuf.length D.length
    rw [hdbuf, List.length_nil] at hdrained ⊢
    omega
  next =>
    have hbound : a.DbufBound C := dbufBound_iff.2 (by rw [hdbuf]; exact Nat.zero_le _)
    have h := programRuns_data hC (splitOperand_ne_nil D.length D) (length_le_of_mem_splitOperand (Nat.le_refl _))
      huninit hfin hbound
    rwa [splitOperand_flatten] at h

/-- The DATA lines of a message move an empty message stream on by its complete blocks (R59, R81). -/
theorem programRuns_message {C : Cfg} (hC : C.wellFormed = true) {dir : Bool} {key : List Byte}
    {start : List Byte × Bool} {a : Arch} (h : MessageAt C dir key start [] a) (D : List Byte) :
    let nb := dataBlocks C dir 0 D.length
    let p := absorbedMsg C dir start (blocksOf C.r nb D)
    ∃ b, ProgramRuns C ((operandPieces D).map (.data · none)) a b p.2.2 ∧
      MessageAt C dir key (p.1, p.2.1) (D.drop (C.r * nb)) b := by
  obtain ⟨huninit, hfin⟩ := h.not_refused
  obtain ⟨olen, hrun⟩ := programRuns_operandPieces hC huninit hfin h.dbuf_eq D
  obtain ⟨hafter, hout⟩ := h.after_data D .ok olen
  exact ⟨_, hout ▸ hrun, hafter⟩

/-! ### FINAL -/

section Final

variable {C : Cfg} {key : List Byte} {start : List Byte × Bool} {buffered : List Byte} {a : Arch}

/-- FINAL when encrypting emits the last ciphertext bytes and the tag (R82). -/
theorem MessageAt.final_encrypt (h : MessageAt C true key start buffered a) {ocap : Nat}
    (hcap : buffered.length + C.t ≤ ocap) :
    let m := closedMsg C true start buffered
    (commandEffect C (.final ocap) a []).1.err = .ok ∧
      (commandEffect C (.final ocap) a []).2 = m.2 ++ tagOf C key m.1 := by
  obtain ⟨huninit, hfin⟩ := h.not_refused
  obtain ⟨-, hdir, rfl, rfl, rfl⟩ := h
  simp only [commandEffect, finalEncEffect, hdir, if_true, if_neg huninit, if_neg hfin, if_neg (Nat.not_lt_of_le hcap)]
  exact ⟨rfl, trivial⟩

/-- FINAL when decrypting emits the last plaintext bytes if the received tag is the computed one (R83). -/
theorem MessageAt.final_decrypt (hC : C.wellFormed = true) {c st M : List Byte}
    (hclosed : closedMsg C false start c = (st, M)) (h : MessageAt C false key start (c ++ tagOf C key st) a) {ocap : Nat}
    (hcap : c.length ≤ ocap) :
    (commandEffect C (.final ocap) a []).1.err = .ok ∧ (commandEffect C (.final ocap) a []).2 = M := by
  obtain ⟨huninit, hfin⟩ := h.not_refused
  obtain ⟨-, hdir, rfl, rfl, hdbuf⟩ := h
  have hlen : a.dbuf.length = c.length + C.t := by rw [hdbuf, List.length_append, tagOf_length hC]
  have htag : ¬a.dbuf.length < C.t := by omega
  have hresidue : a.dbuf.length - C.t = c.length := by omega
  have hsame := (tagEqualIsEquality _ _ rfl).2 (Eq.refl (tagOf C a.key st))
  simp only [commandEffect, finalDecEffect, hdir, Bool.false_eq_true, if_false, if_neg huninit, if_neg hfin, if_neg htag,
    hresidue, if_neg (Nat.not_lt_of_le hcap)]
  simp only [hdbuf, List.take_left, List.drop_left, hclosed, hsame, if_true]
  exact ⟨rfl, trivial⟩

end Final

/-! ### Encrypted streams decrypt -/

/-- Decrypting the output of encrypting `nb` blocks gives the blocks back and leaves the same state, whatever follows them
(R75 laws 1 and 2). -/
theorem absorbedMsg_decrypt_encrypt {C : Cfg} (hrS : C.r ≤ C.S) (X : List Byte) :
    ∀ {nb : Nat} {start : List Byte × Bool} {P : List Byte}, start.1.length = C.S → C.r * nb ≤ P.length →
      let p := absorbedMsg C true start (blocksOf C.r nb P)
      absorbedMsg C false start (blocksOf C.r nb (p.2.2 ++ X)) = (p.1, p.2.1, P.take (C.r * nb))
  | 0, _, _, _, _ => by simp [blocksOf_zero, absorbedMsg_nil]
  | nb + 1, start, P, hst, hP => by
    rw [Nat.mul_succ] at hP
    have hdef := deferred_length .msgInt .msgInt start.2 hst
    have hblock : (P.take C.r).length = C.r := by rw [List.length_take]; omega
    have hfits : (P.take C.r).length ≤ (deferred C .msgInt .msgInt start.2 start.1).length := by omega
    have hback := duplexBytes_decrypt_encrypt hfits
    have hout := duplexBytes_out_length true (deferred C .msgInt .msgInt start.2 start.1) (P.take C.r)
    have hst' := duplexBytes_st_length true (deferred C .msgInt .msgInt start.2 start.1) (P.take C.r)
    rw [Nat.min_eq_right hfits, hblock] at hout
    rw [hdef] at hst'
    simp only [blocksOf_succ, absorbedMsg_cons]
    generalize duplexBytes true (deferred C .msgInt .msgInt start.2 start.1) (P.take C.r) = d at hback hout hst' ⊢
    have hrest := absorbedMsg_decrypt_encrypt hrS X (nb := nb) (start := (d.1, true)) (P := P.drop C.r) hst'
      (by rw [List.length_drop]; omega)
    simp only [List.append_assoc, List.take_left' hout, List.drop_left' hout, hback, hrest, Nat.mul_succ,
      Nat.add_comm (C.r * nb), List.take_add]

/-- With no residue the direction does not matter (R68). -/
theorem closedMsg_nil (C : Cfg) (dir : Bool) (start : List Byte × Bool) :
    closedMsg C dir start [] = ((closedMsg C true start []).1, []) := by
  unfold closedMsg
  split
  · rfl
  · split <;> simp only [duplexBytes]

/-- A residue is duplexed as the padded final block (R68 case B). -/
theorem closedMsg_of_ne_nil (C : Cfg) (dir : Bool) (start : List Byte × Bool) {res : List Byte} (hres : res ≠ []) :
    closedMsg C dir start res =
      let d := duplexBytes dir (deferred C .msgInt .msgInt start.2 start.1) res
      (permuteBytes C .msgLast (xorAt 0 (xorAt res.length d.1 [C.padMarker]) C.dsMsgLast.toList), d.2) := by
  rw [closedMsg, if_neg (fun h => hres h.2), if_pos (.inl hres)]

/-- Decrypting what closing the stream emitted gives the residue back and leaves the same state (R68, R75 law 2). -/
theorem closedMsg_decrypt_encrypt {C : Cfg} {start : List Byte × Bool} {res : List Byte} (hst : start.1.length = C.S)
    (hres : res.length ≤ C.S) :
    let m := closedMsg C true start res
    closedMsg C false start m.2 = (m.1, res) := by
  by_cases hnil : res = []
  · subst hnil
    rw [closedMsg_nil C true start]
    exact closedMsg_nil C false start
  · have hfits : res.length ≤ (deferred C .msgInt .msgInt start.2 start.1).length := by
      rwa [deferred_length _ _ _ hst]
    have hout : (duplexBytes true (deferred C .msgInt .msgInt start.2 start.1) res).2.length = res.length := by
      rw [duplexBytes_out_length, Nat.min_eq_right hfits]
    have hout_nil : (duplexBytes true (deferred C .msgInt .msgInt start.2 start.1) res).2 ≠ [] := by
      rwa [← List.length_pos_iff, hout, List.length_pos_iff]
    simp only [closedMsg_of_ne_nil C true start hnil, closedMsg_of_ne_nil C false start hout_nil, hout,
      duplexBytes_decrypt_encrypt hfits]

end Sys2Proof.Machine

namespace Sys2Proof.Machine

/-! ### A whole session in each direction (R59, R75 law 2) -/

/-- `st`, `pending` and the ciphertext after the complete blocks of the message `P` (R81). -/
def sealedBlocks (C : Cfg) (start : List Byte × Bool) (P : List Byte) : List Byte × Bool × List Byte :=
  absorbedMsg C true start (blocksOf C.r (P.length / C.r) P)

/-- The message bytes after the complete blocks. -/
def messageResidue (C : Cfg) (P : List Byte) : List Byte := P.drop (C.r * (P.length / C.r))

/-- `st` and the ciphertext of the residue as FINAL closes the message stream of `P` (R82). -/
def sealedResidue (C : Cfg) (start : List Byte × Bool) (P : List Byte) : List Byte × List Byte :=
  closedMsg C true ((sealedBlocks C start P).1, (sealedBlocks C start P).2.1) (messageResidue C P)

/-- What FINAL emits when encrypting: the residue's ciphertext and the tag (R82). -/
def sealedTail (C : Cfg) (key : List Byte) (start : List Byte × Bool) (P : List Byte) : List Byte :=
  (sealedResidue C start P).2 ++ tagOf C key (sealedResidue C start P).1

/-- Ciphertext and tag of the message `P` (R75 law 2). -/
def sealedMessage (C : Cfg) (key : List Byte) (start : List Byte × Bool) (P : List Byte) : List Byte :=
  (sealedBlocks C start P).2.2 ++ sealedTail C key start P

section Sealed

variable {C : Cfg} {start : List Byte × Bool}

theorem messageResidue_length_le (hr : 1 ≤ C.r) (P : List Byte) : (messageResidue C P).length ≤ C.r - 1 := by
  rw [messageResidue, List.length_drop]
  exact residue_le hr P.length

theorem sealedBlocks_st_length (hst : start.1.length = C.S) (P : List Byte) :
    (sealedBlocks C start P).1.length = C.S := absorbedMsg_st_length true _ hst

theorem sealedBlocks_out_length (hrS : C.r ≤ C.S) (hst : start.1.length = C.S) (P : List Byte) :
    (sealedBlocks C start P).2.2.length = C.r * (P.length / C.r) := by
  rw [sealedBlocks, absorbedMsg_out_length hrS true hst (length_of_mem_blocksOf (Nat.mul_div_le _ _)), blocksOf_length]

theorem sealedResidue_out_length (hC : C.wellFormed = true) (hst : start.1.length = C.S) (P : List Byte) :
    (sealedResidue C start P).2.length = (messageResidue C P).length := by
  have hshort := messageResidue_length_le (Cfg.one_le_rate hC) P
  have hrS := Cfg.rate_lt_state hC
  rw [sealedResidue, closedMsg_out_length true _ (sealedBlocks_st_length hst P), Nat.min_eq_right (by omega)]

/-- Decrypting the residue's ciphertext leaves the same state and gives the residue back (R75 law 2). -/
theorem closedMsg_sealedResidue (hC : C.wellFormed = true) (hst : start.1.length = C.S) (P : List Byte) :
    closedMsg C false ((sealedBlocks C start P).1, (sealedBlocks C start P).2.1) (sealedResidue C start P).2 =
      ((sealedResidue C start P).1, messageResidue C P) := by
  have hshort := messageResidue_length_le (Cfg.one_le_rate hC) P
  have hrS := Cfg.rate_lt_state hC
  exact closedMsg_decrypt_encrypt (sealedBlocks_st_length hst P) (by omega)

/-- Encrypting adds the tag's length to the message's. -/
theorem sealedMessage_length (hC : C.wellFormed = true) (key : List Byte) (hst : start.1.length = C.S) (P : List Byte) :
    (sealedMessage C key start P).length = P.length + C.t := by
  have hblocks := Nat.mul_div_le P.length C.r
  rw [sealedMessage, sealedTail, List.length_append, List.length_append,
    sealedBlocks_out_length (Cfg.rate_lt_state hC).le hst, sealedResidue_out_length hC hst, tagOf_length hC,
    messageResidue, List.length_drop]
  omega

/-- Decrypting drains the blocks that encrypting drained: the tag's bytes are kept back (R71). -/
theorem dataBlocks_sealedMessage (hC : C.wellFormed = true) (key : List Byte) (hst : start.1.length = C.S)
    (P : List Byte) : dataBlocks C false 0 (sealedMessage C key start P).length = P.length / C.r := by
  simp [dataBlocks, sealedMessage_length hC key hst P]

end Sealed

section Session

variable {C : Cfg} {K N : List Byte}

/-- An INIT line and the AAD lines open the session in the direction of the INIT (R59, R77, R80). -/
theorem programRuns_open (hr : 1 ≤ C.r) {l : Asm} {i : Instr} {dir : Bool} {a : Arch} (line : LineIs l i)
    (opens : commandEffect C i a l.operand = (openedArch C dir K N, [])) (A : List Byte) :
    ProgramRuns C ([l] ++ aadLines A) a (sessionArch C dir K N A) [] :=
  (ProgramRuns.single line opens).append (programRuns_aadLines hr dir K N A)

theorem key_nonce_fit (hC : C.wellFormed = true) (hK : K.length = C.k) (hN : N.length = C.n) :
    K.length < 256 ∧ N.length < 256 := by
  obtain ⟨-, -, ⟨-, hk⟩, ⟨-, hn⟩, -⟩ := C.wellFormed_iff.1 hC
  omega

/-- The DATA lines of ENCRYPT; an empty message has none (R59). -/
theorem programRuns_plaintext (hC : C.wellFormed = true) {key : List Byte} {start : List Byte × Bool} {a : Arch}
    (h : MessageAt C true key start [] a) (P : List Byte) :
    ∃ b, ProgramRuns C (if P = [] then [] else (operandPieces P).map (.data · none)) a b (sealedBlocks C start P).2.2 ∧
      MessageAt C true key ((sealedBlocks C start P).1, (sealedBlocks C start P).2.1) (messageResidue C P) b := by
  split
  next hempty =>
    subst hempty
    exact ⟨a, by simpa [sealedBlocks, blocksOf_zero, absorbedMsg_nil] using .nil a,
      by simpa [sealedBlocks, messageResidue, blocksOf_zero, absorbedMsg_nil] using h⟩
  next =>
    have hnb : dataBlocks C true 0 P.length = P.length / C.r := by simp [dataBlocks]
    have hlines := programRuns_message hC h P
    rwa [hnb] at hlines

/-- The DATA lines of DECRYPT on what ENCRYPT put out release the complete blocks and hold the rest with the tag (R81). -/
theorem programRuns_ciphertext (hC : C.wellFormed = true) {key : List Byte} {start : List Byte × Bool}
    (hst : start.1.length = C.S) {a : Arch} (h : MessageAt C false key start [] a) (P : List Byte) :
    ∃ b, ProgramRuns C ((operandPieces (sealedMessage C key start P)).map (.data · none)) a b
        (P.take (C.r * (P.length / C.r))) ∧
      MessageAt C false key ((sealedBlocks C start P).1, (sealedBlocks C start P).2.1) (sealedTail C key start P) b := by
  have hrS := (Cfg.rate_lt_state hC).le
  have hblocks : absorbedMsg C false start (blocksOf C.r (P.length / C.r) (sealedMessage C key start P)) =
      ((sealedBlocks C start P).1, (sealedBlocks C start P).2.1, P.take (C.r * (P.length / C.r))) :=
    absorbedMsg_decrypt_encrypt hrS _ hst (Nat.mul_div_le _ _)
  have hrest : (sealedMessage C key start P).drop (C.r * (P.length / C.r)) = sealedTail C key start P :=
    List.drop_left' (sealedBlocks_out_length hrS hst P)
  have hlines := programRuns_message hC h (sealedMessage C key start P)
  simp only [dataBlocks_sealedMessage hC key hst P, hblocks, hrest] at hlines
  exact hlines

/-- The last line of both expansions (R59). -/
theorem programRuns_final {a : Arch} {out : List Byte} (hout : (commandEffect C (.final 65535) a []).2 = out) :
    ProgramRuns C [.final none] a (commandEffect C (.final 65535) a []).1 out :=
  .single lineIs_final (Prod.ext rfl hout)

/-- ENCRYPT completes with OK and puts out ciphertext and tag (R59, R82). -/
theorem programRuns_encrypt (hC : C.wellFormed = true) (hK : K.length = C.k) (hN : N.length = C.n) (A P : List Byte)
    (a : Arch) :
    ∃ b, ProgramRuns C (encryptLines K N A P) a b (sealedMessage C K (sessionStart C K N A) P) ∧ b.err = .ok := by
  obtain ⟨c, hdata, hc⟩ := programRuns_plaintext hC (messageAt_session C true K N A) P
  have hcap : (messageResidue C P).length + C.t ≤ 65535 := by
    have hshort := messageResidue_length_le (Cfg.one_le_rate hC) P
    obtain ⟨⟨-, hr, hS⟩, ⟨-, ht⟩, -⟩ := C.wellFormed_iff.1 hC
    omega
  obtain ⟨hKfit, hNfit⟩ := key_nonce_fit hC hK hN
  have hopen := programRuns_open (Cfg.one_le_rate hC) (lineIs_initEnc hKfit hNfit)
    (initEffect_of_lengths true hK hN a) A
  obtain ⟨hok, hout⟩ := hc.final_encrypt hcap
  exact ⟨_, (hopen.append hdata).append (programRuns_final hout), hok⟩

/-- DECRYPT of what ENCRYPT put out completes with OK and puts out the message (R59, R83). -/
theorem programRuns_decrypt (hC : C.wellFormed = true) (hK : K.length = C.k) (hN : N.length = C.n) (A P : List Byte)
    (a : Arch) :
    ∃ b, ProgramRuns C (decryptLines K N A (sealedMessage C K (sessionStart C K N A) P)) a b P ∧ b.err = .ok := by
  have hst := sessionStart_st_length C K N A
  obtain ⟨c, hdata, hc⟩ := programRuns_ciphertext hC hst (messageAt_session C false K N A) P
  have hshort := messageResidue_length_le (Cfg.one_le_rate hC) P
  obtain ⟨⟨-, hr, hS⟩, -⟩ := C.wellFormed_iff.1 hC
  have hcap : (sealedResidue C (sessionStart C K N A) P).2.length ≤ 65535 := by
    rw [sealedResidue_out_length hC hst]; omega
  obtain ⟨hok, hout⟩ := hc.final_decrypt hC (closedMsg_sealedResidue hC hst P) hcap
  obtain ⟨hKfit, hNfit⟩ := key_nonce_fit hC hK hN
  have hopen := programRuns_open (Cfg.one_le_rate hC) (lineIs_initDec hKfit hNfit)
    (initEffect_of_lengths false hK hN a) A
  have hrun := (hopen.append hdata).append (programRuns_final hout)
  have hmessage : [] ++ P.take (C.r * (P.length / C.r)) ++ messageResidue C P = P := List.take_append_drop _ P
  rw [hmessage] at hrun
  exact ⟨_, hrun, hok⟩

end Session

/-- Settles O55 (R59, R75 law 2): each program runs line by line, and the decrypting lines undo the encrypting ones. -/
theorem roundTrip : Obligations.RoundTrip := by
  intro v K N A P hK hN
  have hC := everyInstanceIsWellFormed v
  obtain ⟨b, hencrypt, hok⟩ := programRuns_encrypt hC hK hN A P (Arch.reset v.cfg)
  obtain ⟨b', hdecrypt, hok'⟩ := programRuns_decrypt hC hK hN A P (Arch.reset v.cfg)
  simp only [present_resetOf]
  refine ⟨_, _, run_awaiting hencrypt [], hok, ?_, run_awaiting hdecrypt [], hok', rfl⟩
  exact sealedMessage_length hC K (sessionStart_st_length v.cfg K N A) P

end Sys2Proof.Machine

namespace Sys2Proof.Machine

/-! ### The state a session opens with (R62) -/

/-- The state register holds what its key and nonce open a session with, if the session has only been opened. -/
def Arch.Opened (C : Cfg) (a : Arch) : Prop := a.phase = .initialized → a.st = initialSt C a.key a.nonce

section Opened

variable {C : Cfg} {a : Arch}

theorem opened_of_phase_ne (h : a.phase ≠ .initialized) : a.Opened C := fun hphase => absurd hphase h

/-- An error that keeps the state keeps this too. -/
theorem opened_refusedEffect (e : ResultCode) (h : a.Opened C) : (refusedEffect e a).1.Opened C := h

theorem opened_initEffect (dir : Bool) (klen nlen : Nat) (a : Arch) (op : List Byte) :
    (initEffect C dir klen nlen a op).1.Opened C := by
  unfold initEffect
  split_ifs
  · exact opened_of_phase_ne nofun
  · exact opened_of_phase_ne nofun
  · exact fun _ => rfl

theorem opened_aadEffect (A : List Byte) (h : a.Opened C) : (aadEffect C a A).1.Opened C := by
  simp only [aadEffect]
  split_ifs
  · exact opened_refusedEffect _ h
  · exact opened_refusedEffect _ h
  · exact opened_of_phase_ne nofun

theorem opened_dataEffect (ilen ocap : Nat) (D : List Byte) (h : a.Opened C) :
    (dataEffect C ilen ocap a D).1.Opened C := by
  simp only [dataEffect]
  split
  · exact opened_refusedEffect _ h
  split
  · exact opened_refusedEffect _ h
  split
  · exact opened_refusedEffect _ h
  · exact opened_of_phase_ne nofun

theorem opened_finalEncEffect (ocap : Nat) (h : a.Opened C) : (finalEncEffect C ocap a).1.Opened C := by
  simp only [finalEncEffect]
  split
  · exact opened_refusedEffect _ h
  split
  · exact opened_refusedEffect _ h
  split
  · exact opened_refusedEffect _ h
  · exact opened_of_phase_ne nofun

theorem opened_finalDecEffect (ocap : Nat) (h : a.Opened C) : (finalDecEffect C ocap a).1.Opened C := by
  simp only [finalDecEffect]
  split
  · exact opened_refusedEffect _ h
  split
  · exact opened_refusedEffect _ h
  split
  · exact opened_of_phase_ne nofun
  split
  · exact opened_refusedEffect _ h
  split
  · exact opened_of_phase_ne nofun
  · exact opened_of_phase_ne nofun

theorem opened_resetEffect (h : a.Opened C) : (resetEffect C a).1.Opened C := by
  unfold resetEffect
  split
  · exact opened_refusedEffect _ h
  · exact fun _ => rfl

theorem opened_commandEffect (i : Instr) (op : List Byte) (h : a.Opened C) : (commandEffect C i a op).1.Opened C := by
  cases i with
  | initEnc klen nlen => exact opened_initEffect true klen nlen a op
  | initDec klen nlen => exact opened_initEffect false klen nlen a op
  | aad ilen => exact opened_aadEffect _ h
  | data ilen ocap => exact opened_dataEffect ilen ocap _ h
  | final ocap =>
    rw [commandEffect]
    split
    · exact opened_finalEncEffect ocap h
    · exact opened_finalDecEffect ocap h
  | reset => exact opened_resetEffect h
  | clear => exact opened_of_phase_ne nofun

end Opened

/-- Settles O22 (R62, R77, R78): INIT and RESET write the opening state, and every other command that completes with OK leaves
INITIALIZED. -/
theorem initializedHoldsInitialState : Obligations.InitializedHoldsInitialState := by
  intro i s t hs h
  obtain ⟨-, rfl⟩ := exec_next_effect h
  exact opened_commandEffect i _ hs

/-! ### What OLEN says (R74) -/

/-- OLEN is the number of bytes in the output. -/
def OlenCounts (p : Arch × List Byte) : Prop := p.2.length = p.1.olen.toNat

section Olen

variable {C : Cfg} {a : Arch}

theorem olenCounts_nil {p : Arch × List Byte} (hout : p.2 = []) (holen : p.1.olen = 0) : OlenCounts p := by
  rw [OlenCounts, hout, holen]; rfl

theorem olenCounts_refusedEffect (e : ResultCode) (a : Arch) : OlenCounts (refusedEffect e a) := olenCounts_nil rfl rfl

/-- An output of at most 65535 bytes is counted without wrapping. -/
theorem olenCounts_of_le {p : Arch × List Byte} (holen : p.1.olen = BitVec.ofNat 16 p.2.length)
    (hle : p.2.length < 65536) : OlenCounts p := by
  rw [OlenCounts, holen, BitVec.toNat_ofNat, Nat.mod_eq_of_lt hle]

/-- No more comes out than went in (R67). -/
theorem absorbedMsg_out_length_le (C : Cfg) (dir : Bool) (start : List Byte × Bool) (bs : List (List Byte)) :
    (absorbedMsg C dir start bs).2.2.length ≤ (bs.map List.length).sum := by
  induction bs generalizing start with
  | nil => exact Nat.le_refl 0
  | cons b bs ih =>
    rw [absorbedMsg_cons, List.map_cons, List.sum_cons]
    exact List.length_append.trans_le (Nat.add_le_add (duplexBytes_out_length_le dir _ b) (ih _))

theorem blocksOf_total_le (r nb : Nat) (l : List Byte) : ((blocksOf r nb l).map List.length).sum ≤ r * nb := by
  induction nb generalizing l with
  | zero => exact Nat.le_refl 0
  | succ nb ih =>
    rw [blocksOf_succ, List.map_cons, List.sum_cons, Nat.mul_succ, Nat.add_comm (r * nb)]
    exact Nat.add_le_add (List.length_take_le _ _) (ih _)

theorem closedMsg_out_length_le (C : Cfg) (dir : Bool) (start : List Byte × Bool) (res : List Byte) :
    (closedMsg C dir start res).2.length ≤ res.length := by
  by_cases hres : res = []
  · subst hres
    rw [closedMsg_nil]
  · rw [closedMsg_of_ne_nil C dir start hres]
    exact duplexBytes_out_length_le dir _ res

theorem tagOf_length_le (C : Cfg) (key st : List Byte) : (tagOf C key st).length ≤ C.t := slice_length_le _ _ _

theorem olenCounts_initEffect (dir : Bool) (klen nlen : Nat) (op : List Byte) :
    OlenCounts (initEffect C dir klen nlen a op) := by
  unfold initEffect
  split_ifs <;> exact olenCounts_nil rfl rfl

theorem olenCounts_aadEffect (A : List Byte) : OlenCounts (aadEffect C a A) := by
  simp only [aadEffect]
  split_ifs <;> exact olenCounts_nil rfl rfl

theorem olenCounts_resetEffect : OlenCounts (resetEffect C a) := by
  unfold resetEffect
  split_ifs <;> exact olenCounts_nil rfl rfl

/-- OCAP bounds what DATA emits (R81). -/
theorem olenCounts_dataEffect {ilen ocap : Nat} (hocap : ocap < 65536) (D : List Byte) :
    OlenCounts (dataEffect C ilen ocap a D) := by
  simp only [dataEffect]
  split
  · exact olenCounts_refusedEffect _ a
  split
  · exact olenCounts_refusedEffect _ a
  split
  · exact olenCounts_refusedEffect _ a
  next hcap =>
    have hout := (absorbedMsg_out_length_le C a.dir (messageStart C a) _).trans
      (blocksOf_total_le C.r (dataBlocks C a.dir a.dbuf.length ilen) (a.dbuf ++ D))
    exact olenCounts_of_le rfl (by dsimp only; omega)

/-- OCAP bounds what FINAL emits (R82). -/
theorem olenCounts_finalEncEffect {ocap : Nat} (hocap : ocap < 65536) : OlenCounts (finalEncEffect C ocap a) := by
  simp only [finalEncEffect]
  split
  · exact olenCounts_refusedEffect _ a
  split
  · exact olenCounts_refusedEffect _ a
  split
  · exact olenCounts_refusedEffect _ a
  next hcap =>
    have hres := closedMsg_out_length_le C a.dir (messageStart C a) a.dbuf
    have htag := tagOf_length_le C a.key (closedMsg C a.dir (messageStart C a) a.dbuf).1
    exact olenCounts_of_le rfl (by dsimp only; rw [List.length_append]; omega)

/-- And so it does when decrypting (R83). -/
theorem olenCounts_finalDecEffect {ocap : Nat} (hocap : ocap < 65536) : OlenCounts (finalDecEffect C ocap a) := by
  simp only [finalDecEffect]
  split
  · exact olenCounts_refusedEffect _ a
  split
  · exact olenCounts_refusedEffect _ a
  split
  · exact olenCounts_nil rfl rfl
  split
  · exact olenCounts_refusedEffect _ a
  next hcap =>
    split
    · have hres := closedMsg_out_length_le C a.dir (messageStart C a) (a.dbuf.take (a.dbuf.length - C.t))
      rw [List.length_take] at hres
      exact olenCounts_of_le rfl (by dsimp only; omega)
    · exact olenCounts_nil rfl rfl

end Olen

/-- Settles O42 (R29, R74): a command that emits checks its output against OCAP first, and OCAP has 16 bits. -/
theorem olenIsOutputLength : Obligations.OlenIsOutputLength := by
  intro i s t hwf h
  obtain ⟨-, rfl⟩ := exec_next_effect h
  rw [State.done_dout, State.done_arch, List.length_append, Nat.add_left_cancel_iff]
  cases i with
  | initEnc klen nlen => exact olenCounts_initEffect true klen nlen _
  | initDec klen nlen => exact olenCounts_initEffect false klen nlen _
  | aad ilen => exact olenCounts_aadEffect _
  | data ilen ocap =>
    simp only [Instr.wellFormed, Bool.and_eq_true, decide_eq_true_eq] at hwf
    obtain ⟨-, hocap⟩ := hwf
    exact olenCounts_dataEffect hocap _
  | final ocap =>
    rw [Instr.wellFormed, decide_eq_true_eq] at hwf
    simp only [commandEffect]
    split
    · exact olenCounts_finalEncEffect hwf
    · exact olenCounts_finalDecEffect hwf
  | reset => exact olenCounts_resetEffect
  | clear => exact olenCounts_nil rfl rfl

/-! ### Drain counts and output lengths (R71) -/

section Lengths

variable {C : Cfg} {a : Arch}

/-- The bytes a successful DATA emits and leaves (R71). -/
theorem dataEffect_lengths (hC : C.wellFormed = true) {ilen ocap : Nat} {D : List Byte} (hst : a.st.length = C.S)
    (hD : D.length = ilen) (hok : (dataEffect C ilen ocap a D).1.err = .ok) :
    (dataEffect C ilen ocap a D).2.length = C.r * dataBlocks C a.dir a.dbuf.length ilen ∧
      (dataEffect C ilen ocap a D).1.dbuf.length =
        a.dbuf.length + ilen - C.r * dataBlocks C a.dir a.dbuf.length ilen := by
  rw [dataEffect_of_ok hok]
  exact ⟨dataEffect_out_length hC hst hD, hD ▸ dataDrain_dbuf_length C _ a D⟩

/-- In a good state the buffered message bytes, less a tag when decrypting, are fewer than a block (R24, R33). -/
theorem dbuf_length_le (ha : a.PhaseInv C) : a.dbuf.length ≤ if a.dir then C.r - 1 else C.r + C.t - 1 := by
  by_cases hproc : a.phase = .processing
  · obtain ⟨-, hbound, -⟩ := (phaseInv_processing hproc).1 ha
    exact dbufBound_iff.1 hbound
  · rw [dbuf_eq_nil_of_before_processing ha hproc]
    exact Nat.zero_le _

/-- FINAL when encrypting emits the buffered bytes and the tag if it succeeds, else nothing (R82). -/
theorem finalEncEffect_out_length (hC : C.wellFormed = true) (ha : a.Inv C) (hdir : a.dir = true) (ocap : Nat) :
    (finalEncEffect C ocap a).2.length =
      if (finalEncEffect C ocap a).1.err = .ok then a.dbuf.length + C.t else 0 := by
  obtain ⟨⟨hst, -⟩, hphase⟩ := ha
  have hbound := dbuf_length_le hphase
  rw [hdir, if_pos rfl] at hbound
  have hrS := Cfg.rate_lt_state hC
  have hclosed := closedMsg_out_length a.dir a.dbuf (messageStart_st_length (a := a) hst)
  rw [Nat.min_eq_right (by omega)] at hclosed
  simp only [finalEncEffect]
  split
  · rfl
  split
  · rfl
  split
  · rfl
  · have htag := tagOf_length hC a.key (closedMsg C a.dir (messageStart C a) a.dbuf).1
    exact List.length_append.trans (congrArg₂ _ hclosed htag)

/-- FINAL when decrypting emits the buffered bytes but for the tag if it succeeds, else nothing (R83). -/
theorem finalDecEffect_out_length (hC : C.wellFormed = true) (ha : a.Inv C) (hdir : a.dir = false) (ocap : Nat) :
    (finalDecEffect C ocap a).2.length =
      if (finalDecEffect C ocap a).1.err = .ok then a.dbuf.length - C.t else 0 := by
  obtain ⟨⟨hst, -⟩, hphase⟩ := ha
  have hbound := dbuf_length_le hphase
  rw [hdir, if_neg Bool.false_ne_true] at hbound
  have hrS := Cfg.rate_lt_state hC
  have hclosed := closedMsg_out_length a.dir (a.dbuf.take (a.dbuf.length - C.t)) (messageStart_st_length (a := a) hst)
  rw [List.length_take, Nat.min_eq_left (Nat.sub_le _ _), Nat.min_eq_right (by omega)] at hclosed
  simp only [finalDecEffect]
  split
  · rfl
  split
  · rfl
  split
  · rfl
  split
  · rfl
  split
  · exact hclosed
  · rfl

end Lengths

/-- Settles O41 (R71): the buffers are within R24's bounds, so every byte meets a byte of the state. -/
theorem outputLengths : Obligations.OutputLengths := by
  intro s t hs
  obtain ⟨ha, -⟩ := hs
  have hC := s.cfg_wellFormed
  refine ⟨fun L ocap h hok => ?_, fun ocap h => ?_⟩
  · obtain ⟨⟨hst, -⟩, -⟩ := ha
    obtain ⟨hlen, rfl⟩ := exec_next_effect h
    have htake : ((s.din.take L).take L).length = L := by rw [List.take_take, Nat.min_self]; exact hlen
    obtain ⟨hout, hdbuf⟩ := dataEffect_lengths hC hst htake hok
    refine ⟨?_, hdbuf, hdbuf.trans_le (dataBlocks_residue s.one_le_rate _ _ _)⟩
    rw [State.done_dout, List.length_append]
    exact congrArg _ hout
  · obtain ⟨-, rfl⟩ := exec_next_effect h
    rw [State.done_dout, List.length_append, State.done_arch, Nat.add_left_cancel_iff]
    by_cases hdir : s.arch.dir = true
    · simp only [commandEffect, if_pos hdir]
      exact finalEncEffect_out_length hC ha hdir ocap
    · simp only [commandEffect, if_neg hdir]
      exact finalDecEffect_out_length hC ha (Bool.eq_false_iff.2 hdir) ocap

end Sys2Proof.Machine

namespace Sys2Proof.Machine

/-! ### The permutation calls of the procedures (R61) -/

/-- The permutation between two AAD blocks (R64). -/
def aadIntCall : PermCall := ⟨.aadInt, some .aadInt⟩

/-- The permutation between two message blocks (R67). -/
def msgIntCall : PermCall := ⟨.msgInt, some .msgInt⟩

/-- The mask a stream closes with on the residue `res`: case A, B or C of R65 and R68, each stream with its own three masks. -/
def closingMask (C : Cfg) (empty padded full : Mask) (pending : Bool) (res : List Byte) : Mask :=
  if pending = false ∧ res = [] then empty
  else if res ≠ [] ∨ C.fullPolicy = .extraBlock then padded
  else full

/-- The calls a stream closes with: the interior permutation still pending if another block follows it, then the last-block
permutation (R65, R68). -/
def closingCalls (C : Cfg) (interior last : PermCall) (pending : Bool) (res : List Byte) : List PermCall :=
  (if pending = true ∧ (res ≠ [] ∨ C.fullPolicy = .extraBlock) then [interior] else []) ++ [last]

/-- The last-block permutation of the AAD stream (R65). -/
def aadLastCall (C : Cfg) (pending : Bool) (res : List Byte) : PermCall :=
  ⟨.aadLast, some (closingMask C .noAad .aadLast .aadLastFull pending res)⟩

/-- The last-block permutation of the message stream (R68). -/
def msgLastCall (C : Cfg) (pending : Bool) (res : List Byte) : PermCall :=
  ⟨.msgLast, some (closingMask C .emptyMsg .msgLast .msgLastFull pending res)⟩

theorem closeAad_calls (C : Cfg) (x : Work) :
    (closeAad C x).calls =
      x.calls ++ closingCalls C aadIntCall (aadLastCall C x.arch.pending x.arch.abuf) x.arch.pending x.arch.abuf := by
  unfold closeAad closeAadBlock closingCalls aadLastCall closingMask
  split
  next hempty => simp [hempty]
  next hsome =>
    split
    next hpadded => simp [hpadded, aadIntCall]
    next hfull => simp [hfull]

theorem closeMsg_calls (C : Cfg) (res : List Byte) (x : Work) :
    (closeMsg C res x).2.calls =
      x.calls ++ closingCalls C msgIntCall (msgLastCall C x.arch.pending res) x.arch.pending res := by
  unfold closeMsg closeMsgBlock closingCalls msgLastCall closingMask
  split
  next hempty => simp [hempty]
  next hsome =>
    split
    next hpadded => simp [hpadded, duplex, msgIntCall]
    next hfull => simp [hfull]

/-- The calls with which DATA and FINAL close the AAD stream, where it is open (R81 to R83). -/
def openAadCalls (C : Cfg) (a : Arch) : List PermCall :=
  if a.aadOpen then closingCalls C aadIntCall (aadLastCall C a.pending a.abuf) a.pending a.abuf else []

theorem closeAadIfOpen_calls (C : Cfg) (x : Work) :
    (closeAadIfOpen C x).calls = x.calls ++ openAadCalls C x.arch := by
  unfold closeAadIfOpen openAadCalls Arch.aadOpen
  cases h : x.arch.phase <;> simp [closeAad_calls]

theorem drainAad_calls (C : Cfg) (fuel : Nat) (x : Work) :
    ∃ n, (drainAad C fuel x).calls = x.calls ++ List.replicate n aadIntCall := by
  induction fuel generalizing x with
  | zero => exact ⟨0, (List.append_nil _).symm⟩
  | succ fuel ih =>
    rw [drainAad]
    split
    · obtain ⟨n, hrest⟩ := ih (absorbAadBlock C (x.arch.abuf.take C.r) (x.onArch (Arch.setAbuf (x.arch.abuf.drop C.r))))
      rw [hrest, absorbAadBlock_calls, List.append_assoc]
      split
      · exact ⟨n + 1, rfl⟩
      · exact ⟨n, rfl⟩
    · exact ⟨0, (List.append_nil _).symm⟩

theorem drainMsg_calls (C : Cfg) (nb : Nat) (x : Work) :
    ∃ n, (drainMsg C nb x).calls = x.calls ++ List.replicate n msgIntCall := by
  induction nb generalizing x with
  | zero => exact ⟨0, (List.append_nil _).symm⟩
  | succ nb ih =>
    rw [drainMsg]
    obtain ⟨n, hrest⟩ := ih (outEmit
      (absorbMsgBlock C (x.arch.dbuf.take C.r) (x.onArch (Arch.setDbuf (x.arch.dbuf.drop C.r)))).1
      (absorbMsgBlock C (x.arch.dbuf.take C.r) (x.onArch (Arch.setDbuf (x.arch.dbuf.drop C.r)))).2)
    rw [hrest, outEmit_calls, absorbMsgBlock_calls, List.append_assoc]
    split
    · exact ⟨n + 1, rfl⟩
    · exact ⟨n, rfl⟩

/-! ### The permutation calls of the commands -/

/-- The message bytes FINAL closes the stream on: when decrypting all but the received tag (R82, R83). -/
def finalResidue (C : Cfg) (a : Arch) : List Byte :=
  if a.dir = true then a.dbuf else a.dbuf.take (a.dbuf.length - C.t)

/-- The calls of FINAL when it passes its checks (R82, R83). -/
def finalCalls (C : Cfg) (a : Arch) (res : List Byte) : List PermCall :=
  openAadCalls C a ++ closingCalls C msgIntCall (msgLastCall C (messageStart C a).2 res) (messageStart C a).2 res ++
    [⟨.fin, none⟩]

/-- Every sequence of permutation calls a command can make. -/
inductive CallPattern (C : Cfg) (i : Instr) (a : Arch) : List PermCall → Prop
  /-- An error before any call, or CLEAR. -/
  | silent : CallPattern C i a []
  /-- INIT and RESET (R62). -/
  | opens : CallPattern C i a [⟨.init, none⟩]
  /-- AAD: interior blocks only (R64). -/
  | absorbs (n : Nat) : CallPattern C i a (List.replicate n aadIntCall)
  /-- DATA: the AAD stream closes, then interior blocks (R67). -/
  | transforms (n : Nat) (command : ∃ l o, i = .data l o) :
      CallPattern C i a (openAadCalls C a ++ List.replicate n msgIntCall)
  /-- FINAL: both streams close, then the tag is derived (R69). -/
  | closes (running : a.aadOpen = true ∨ a.phase = .processing) (command : ∃ o, i = .final o) :
      CallPattern C i a (finalCalls C a (finalResidue C a))

/-- A session whose phase is neither of the two in which DATA and FINAL are refused. -/
theorem running_of_not_refused {a : Arch} (huninit : a.phase ≠ .uninitialized) (hfin : a.phase ≠ .finalized) :
    a.aadOpen = true ∨ a.phase = .processing := by
  cases hphase : a.phase <;> simp_all [Arch.aadOpen]

section Calls

variable (C : Cfg) (a : Arch) (op : List Byte)

theorem initRule_calls (i : Instr) (dir : Bool) (klen nlen : Nat) :
    CallPattern C i a (initRule C dir klen nlen (Work.start a op)).calls := by
  simp only [initRule]
  split
  · exact .silent
  split
  · exact .silent
  · exact .opens

theorem resetRule_calls (i : Instr) : CallPattern C i a (resetRule C (Work.start a op)).calls := by
  simp only [resetRule]
  split
  · exact .silent
  · exact .opens

theorem aadRule_calls (i : Instr) (ilen : Nat) : CallPattern C i a (aadRule C ilen (Work.start a op)).calls := by
  simp only [aadRule]
  split
  · exact .silent
  split
  · exact .silent
  · rw [finish_calls, Work.onArch_calls]
    obtain ⟨n, hcalls⟩ := drainAad_calls C _ _
    rw [hcalls]
    exact .absorbs n

theorem dataRule_calls (ilen ocap : Nat) :
    CallPattern C (.data ilen ocap) a (dataRule C ilen ocap (Work.start a op)).calls := by
  simp only [dataRule]
  split
  · exact .silent
  split
  · exact .silent
  split
  · exact .silent
  · rw [finish_calls]
    obtain ⟨n, hcalls⟩ := drainMsg_calls C _ _
    rw [hcalls, Work.onArch_calls, Work.onArch_calls, closeAadIfOpen_calls]
    exact .transforms n ⟨ilen, ocap, rfl⟩

theorem closeAadIfOpen_dbuf : (closeAadIfOpen C (Work.start a op)).arch.dbuf = a.dbuf := by
  rw [closeAadIfOpen_arch]; rfl

/-- The calls after FINAL's checks, on the residue it closes the message stream on. -/
theorem deriveTag_closeMsg_calls (res : List Byte) :
    (deriveTag C ((closeMsg C res (closeAadIfOpen C (Work.start a op))).2.onArch (Arch.setDbuf []))).2.calls =
      finalCalls C a res := by
  rw [deriveTag_calls, Work.onArch_calls, closeMsg_calls, closeAadIfOpen_calls, closeAadIfOpen_arch]
  rfl

theorem finalEncRule_calls (hdir : a.dir = true) (ocap : Nat) :
    CallPattern C (.final ocap) a (finalEncRule C ocap (Work.start a op)).calls := by
  have hres : finalResidue C a = a.dbuf := if_pos hdir
  simp only [finalEncRule]
  split
  · exact .silent
  next huninit =>
  split
  · exact .silent
  next hfin =>
  split
  · exact .silent
  · rw [finish_calls, outEmit_calls, Work.onArch_calls, closeAadIfOpen_dbuf, deriveTag_closeMsg_calls, ← hres]
    exact .closes (running_of_not_refused huninit hfin) ⟨ocap, rfl⟩

theorem finalDecRule_calls (hdir : a.dir = false) (ocap : Nat) :
    CallPattern C (.final ocap) a (finalDecRule C ocap (Work.start a op)).calls := by
  have hres : finalResidue C a = a.dbuf.take (a.dbuf.length - C.t) := if_neg (Bool.eq_false_iff.1 hdir)
  simp only [finalDecRule, Work.start_arch, closeAadIfOpen_dbuf]
  split
  · exact .silent
  next huninit =>
  split
  · exact .silent
  next hfin =>
  split
  · exact .silent
  split
  · exact .silent
  · have closes : CallPattern C (.final ocap) a (finalCalls C a (finalResidue C a)) :=
      .closes (running_of_not_refused huninit hfin) ⟨ocap, rfl⟩
    rw [hres, ← deriveTag_closeMsg_calls C a op] at closes
    split
    · exact closes
    · exact closes

/-- Every command makes one of these sequences of calls. -/
theorem commandCalls_pattern (i : Instr) : CallPattern C i a (commandCalls C i a op) := by
  cases i with
  | initEnc klen nlen => exact initRule_calls C a op _ true klen nlen
  | initDec klen nlen => exact initRule_calls C a op _ false klen nlen
  | aad ilen => exact aadRule_calls C a op _ ilen
  | data ilen ocap => exact dataRule_calls C a op ilen ocap
  | final ocap =>
    rw [commandCalls, Instr.rule, finalRule, Work.start_arch]
    by_cases hdir : a.dir = true
    · rw [if_pos hdir]
      exact finalEncRule_calls C a op hdir ocap
    · rw [if_neg hdir]
      exact finalDecRule_calls C a op (Bool.eq_false_iff.2 hdir) ocap
  | reset => exact resetRule_calls C a op _
  | clear => exact .silent

end Calls

/-! ### The schedule (R61) -/

/-- R61's table: which mask may stand at which site. -/
def scheduleTable : List PermCall :=
  [⟨.init, none⟩, ⟨.fin, none⟩, ⟨.aadInt, some .aadInt⟩, ⟨.aadLast, some .aadLast⟩, ⟨.aadLast, some .aadLastFull⟩,
   ⟨.aadLast, some .noAad⟩, ⟨.msgInt, some .msgInt⟩, ⟨.msgLast, some .msgLast⟩, ⟨.msgLast, some .msgLastFull⟩,
   ⟨.msgLast, some .emptyMsg⟩]

/-- The calls of `cs` at one site. -/
def callsAt (site : Site) (cs : List PermCall) : List PermCall := cs.filter fun c => c.site == site

section Schedule

variable (C : Cfg) (pending : Bool) (res : List Byte) (site : Site)

theorem closingMask_cases (empty padded full : Mask) :
    closingMask C empty padded full pending res = empty ∨ closingMask C empty padded full pending res = padded ∨
      closingMask C empty padded full pending res = full := by
  unfold closingMask
  split_ifs <;> simp

theorem aadLastCall_mem_table : aadLastCall C pending res ∈ scheduleTable := by
  unfold aadLastCall
  obtain h | h | h := closingMask_cases C pending res .noAad .aadLast .aadLastFull <;> rw [h] <;> decide

theorem msgLastCall_mem_table : msgLastCall C pending res ∈ scheduleTable := by
  unfold msgLastCall
  obtain h | h | h := closingMask_cases C pending res .emptyMsg .msgLast .msgLastFull <;> rw [h] <;> decide

theorem subset_closingCalls {interior last : PermCall} (hinterior : interior ∈ scheduleTable)
    (hlast : last ∈ scheduleTable) : closingCalls C interior last pending res ⊆ scheduleTable := by
  unfold closingCalls
  split_ifs <;> simp [hinterior, hlast]

theorem callsAt_append (cs cs' : List PermCall) : callsAt site (cs ++ cs') = callsAt site cs ++ callsAt site cs' :=
  List.filter_append cs cs'

variable {C pending res site}

theorem callsAt_replicate_of_ne {c : PermCall} (h : c.site ≠ site) (n : Nat) :
    callsAt site (List.replicate n c) = [] := by
  simp [callsAt, h]

/-- At a site that is not the interior one, closing makes at most its last-block call. -/
theorem callsAt_closingCalls {interior last : PermCall} (h : interior.site ≠ site) :
    callsAt site (closingCalls C interior last pending res) = callsAt site [last] := by
  unfold closingCalls
  split_ifs <;> simp [callsAt, h]

theorem openAadCalls_subset (C : Cfg) (a : Arch) : openAadCalls C a ⊆ scheduleTable := by
  unfold openAadCalls
  split
  · exact subset_closingCalls C _ _ (by decide) (aadLastCall_mem_table C _ _)
  · exact List.nil_subset _

theorem callsAt_aadLast_openAadCalls (C : Cfg) (a : Arch) :
    callsAt .aadLast (openAadCalls C a) = if a.aadOpen then [aadLastCall C a.pending a.abuf] else [] := by
  unfold openAadCalls
  split
  · exact callsAt_closingCalls (by decide)
  · rfl

theorem callsAt_msgLast_openAadCalls (C : Cfg) (a : Arch) : callsAt .msgLast (openAadCalls C a) = [] := by
  unfold openAadCalls
  split
  · exact callsAt_closingCalls (by decide)
  · rfl

end Schedule

section Pattern

variable {C : Cfg} {i : Instr} {a : Arch} {cs : List PermCall}

/-- Every call stands in R61's table. -/
theorem CallPattern.subset_table (h : CallPattern C i a cs) : cs ⊆ scheduleTable := by
  have replicate_subset {c : PermCall} (hc : c ∈ scheduleTable) (n : Nat) : List.replicate n c ⊆ scheduleTable :=
    fun d hd => List.eq_of_mem_replicate hd ▸ hc
  cases h with
  | silent => exact List.nil_subset _
  | opens => decide
  | absorbs n => exact replicate_subset (by decide) n
  | transforms n => exact List.append_subset.2 ⟨openAadCalls_subset C a, replicate_subset (by decide) n⟩
  | closes =>
    exact List.append_subset.2 ⟨List.append_subset.2 ⟨openAadCalls_subset C a,
      subset_closingCalls C _ _ (by decide) (msgLastCall_mem_table C _ _)⟩, by decide⟩

/-- The AAD stream is closed at most once, by DATA or FINAL, while it is open (R65). -/
theorem CallPattern.callsAt_aadLast (h : CallPattern C i a cs) :
    callsAt .aadLast cs = [] ∨
      a.aadOpen = true ∧ ((∃ l o, i = .data l o) ∨ ∃ o, i = .final o) ∧
        callsAt .aadLast cs = [aadLastCall C a.pending a.abuf] := by
  have opened_or {cs : List PermCall} (hcommand : (∃ l o, i = .data l o) ∨ ∃ o, i = .final o)
      (hcs : callsAt .aadLast cs = callsAt .aadLast (openAadCalls C a)) :
      callsAt .aadLast cs = [] ∨ a.aadOpen = true ∧ ((∃ l o, i = .data l o) ∨ ∃ o, i = .final o) ∧
        callsAt .aadLast cs = [aadLastCall C a.pending a.abuf] := by
    rw [hcs, callsAt_aadLast_openAadCalls]
    split
    next hopen => exact .inr ⟨hopen, hcommand, rfl⟩
    next => exact .inl rfl
  cases h with
  | silent | opens => exact .inl rfl
  | absorbs n => exact .inl (callsAt_replicate_of_ne (by decide) n)
  | transforms n hcommand =>
    refine opened_or (.inl hcommand) ?_
    rw [callsAt_append, callsAt_replicate_of_ne (by decide), List.append_nil]
  | closes _ hcommand =>
    refine opened_or (.inr hcommand) ?_
    have hmsg : callsAt .aadLast [msgLastCall C (messageStart C a).2 (finalResidue C a)] = [] := rfl
    have hfin : callsAt .aadLast [⟨.fin, none⟩] = [] := rfl
    rw [finalCalls, callsAt_append, callsAt_append, callsAt_closingCalls (by decide), hmsg, hfin, List.append_nil,
      List.append_nil]

/-- The message stream is closed at most once, by FINAL (R68). -/
theorem CallPattern.callsAt_msgLast (h : CallPattern C i a cs) :
    callsAt .msgLast cs = [] ∨
      (a.aadOpen = true ∨ a.phase = .processing) ∧ (∃ o, i = .final o) ∧
        callsAt .msgLast cs = [msgLastCall C (messageStart C a).2 (finalResidue C a)] := by
  cases h with
  | silent | opens => exact .inl rfl
  | absorbs n => exact .inl (callsAt_replicate_of_ne (by decide) n)
  | transforms n =>
    rw [callsAt_append, callsAt_replicate_of_ne (by decide), callsAt_msgLast_openAadCalls]
    exact .inl rfl
  | closes hrunning hcommand =>
    refine .inr ⟨hrunning, hcommand, ?_⟩
    rw [finalCalls, callsAt_append, callsAt_append, callsAt_closingCalls (by decide), callsAt_msgLast_openAadCalls]
    rfl

end Pattern

/-- Nothing of the message has been absorbed yet, or nothing since its last permutation. -/
theorem messageStart_pending_eq_false_iff (C : Cfg) (a : Arch) :
    (messageStart C a).2 = false ↔ a.aadOpen = true ∨ a.pending = false := by
  unfold messageStart
  split <;> simp [*]

theorem countP_site (site : Site) (cs : List PermCall) :
    cs.countP (fun c => c.site == site) = (callsAt site cs).length := List.countP_eq_length_filter

theorem mem_callsAt {site : Site} {m : Option Mask} {cs : List PermCall} (h : ⟨site, m⟩ ∈ cs) :
    ⟨site, m⟩ ∈ callsAt site cs := List.mem_filter.2 ⟨h, beq_self_eq_true site⟩

/-- Settles O49 (R61, R65, R68, R75 law 4): the calls at a last-block site are none, or the one of the closing procedure. -/
theorem masksFollowSchedule : Obligations.MasksFollowSchedule := by
  intro C i a operand
  have pattern := commandCalls_pattern C a operand i
  have haad := pattern.callsAt_aadLast
  have hmsg := pattern.callsAt_msgLast
  refine ⟨fun c hc => pattern.subset_table hc, ?_, ?_, fun m hm => ?_, fun m hm => ?_⟩
  · rw [countP_site]
    obtain h | ⟨-, -, h⟩ := haad <;> simp [h]
  · rw [countP_site]
    obtain h | ⟨-, -, h⟩ := hmsg <;> simp [h]
  · have hmem := mem_callsAt hm
    obtain h | ⟨hopen, hcommand, h⟩ := haad
    · simp [h] at hmem
    · rw [h, List.mem_singleton, aadLastCall, PermCall.mk.injEq, Option.some.injEq] at hmem
      obtain ⟨-, hmask⟩ := hmem
      exact ⟨hopen, hcommand, hmask⟩
  · have hmem := mem_callsAt hm
    obtain h | ⟨hrunning, hcommand, h⟩ := hmsg
    · simp [h] at hmem
    · rw [h, List.mem_singleton, msgLastCall, PermCall.mk.injEq, Option.some.injEq] at hmem
      obtain ⟨-, hmask⟩ := hmem
      simp only [← messageStart_pending_eq_false_iff C a]
      exact ⟨hrunning, hcommand, hmask⟩

end Sys2Proof.Machine

/-! PROOFS about 41_session: what INIT, RESET and CLEAR leave (R77 to R79), each as the effect its rule has in the branch the
statement is about, delivered without output. -/

namespace Sys2Proof.Machine

/-! ### A command that emits nothing -/

/-- A command with its operand presented completes with its effect where that has no output: no host can block it (R50). -/
theorem exec_of_silent_effect {i : Instr} {s : State} {a : Arch} (hsupplied : s.Supplies i.oplen)
    (heffect : commandEffect s.cfg i s.arch (s.din.take i.oplen) = (a, [])) :
    exec i s = .next (s.done i.oplen a []) := by
  rw [exec_eq_deliver, if_pos hsupplied, heffect]
  exact deliver_of_accepts (accepts_zero _)

/-! ### The session INIT opens (R77) -/

/-- The operand is cut into key and nonce wherever the bytes presented go on after it. -/
theorem initEffect_of_presented (C : Cfg) (dir : Bool) (a : Arch) (din : List Byte) :
    initEffect C dir C.k C.n a (din.take (C.k + C.n)) =
      (openedArch C dir (din.take C.k) (slice din C.k C.n), []) := by
  have hkey : (din.take (C.k + C.n)).take C.k = din.take C.k := by
    rw [List.take_take, Nat.min_eq_left (Nat.le_add_right ..)]
  have hnonce : ((din.take (C.k + C.n)).drop C.k).take C.n = slice din C.k C.n := by
    rw [List.drop_take, Nat.add_sub_cancel_left, List.take_take, Nat.min_self, slice]
  rw [initEffect, if_neg (not_not.2 rfl), if_neg (not_not.2 rfl), hkey, hnonce, openedArch]

/-- The result of an INIT one of whose lengths is wrong: the key length is tested first (R88). -/
def initLengthError (C : Cfg) (klen : Nat) : ResultCode :=
  if klen = C.k then .invalidNonceLength else .invalidKeyLength

/-- Such an INIT leaves the engine zeroised (R73, R87). -/
theorem initEffect_of_wrong_length {C : Cfg} (dir : Bool) {klen nlen : Nat} (h : ¬(klen = C.k ∧ nlen = C.n)) (a : Arch)
    (op : List Byte) :
    initEffect C dir klen nlen a op = ({ Arch.reset C with err := initLengthError C klen }, []) := by
  unfold initEffect initLengthError
  by_cases hk : klen = C.k
  · have hn : nlen ≠ C.n := fun hn => h ⟨hk, hn⟩
    rw [if_neg (not_not.2 hk), if_pos hn, if_pos hk]
    rfl
  · rw [if_pos hk, if_neg hk]
    rfl

/-! ### Commands with no session (R79) -/

/-- With no session every command but INIT and CLEAR is refused, whatever its operand. -/
theorem commandEffect_of_uninitialized (C : Cfg) {i : Instr} {a : Arch} (op : List Byte)
    (henc : ∀ klen nlen, i ≠ .initEnc klen nlen) (hdec : ∀ klen nlen, i ≠ .initDec klen nlen) (hclear : i ≠ .clear)
    (h : a.phase = .uninitialized) : commandEffect C i a op = refusedEffect .notInitialized a := by
  cases i with
  | initEnc klen nlen => exact absurd rfl (henc klen nlen)
  | initDec klen nlen => exact absurd rfl (hdec klen nlen)
  | clear => exact absurd rfl hclear
  | aad ilen => exact if_pos h
  | data ilen ocap => exact if_pos h
  | reset => exact if_pos h
  | final ocap =>
    rw [commandEffect]
    split
    · exact if_pos h
    · exact if_pos h

/-- Zeroising (R73) and writing STATUS's OK and OLEN 0 leave the reset values of R35. -/
theorem commandEffect_clear (C : Cfg) (a : Arch) (op : List Byte) :
    commandEffect C .clear a op = (Arch.reset C, []) := rfl

/-! ### The obligations -/

/-- Settles O28 (R62, R77): the operand is cut at the configured lengths, in either direction. -/
theorem initStartsSession : Obligations.InitStartsSession := fun s hs =>
  ⟨exec_of_silent_effect hs (initEffect_of_presented s.cfg true s.arch s.din),
    exec_of_silent_effect hs (initEffect_of_presented s.cfg false s.arch s.din)⟩

/-- Settles O31 (R79): CLEAR leaves the reset values, whose STATUS is 0 and whose phase has no session. -/
theorem clearZeroises : Obligations.ClearZeroises := by
  refine ⟨fun w => ?_, fun s => ⟨?_, ?_, fun i henc hdec hclear hsupplied => ?_⟩⟩
  · obtain ⟨-, -, -, -, -, -, hword⟩ := decodeFollowsOpcodeTable w 0 0
    exact hword
  · exact exec_of_silent_effect (Nat.zero_le _) (commandEffect_clear s.cfg s.arch _)
  · rw [readPort_status]
    exact BitVec.eq_of_toNat_eq (statusWord_toNat _)
  · exact exec_of_silent_effect hsupplied (commandEffect_of_uninitialized _ _ henc hdec hclear rfl)

/-- Settles O29 (R73, R77, R87, R88): either wrong length zeroises, and only the code tells which. -/
theorem initLengthErrorsZeroise : Obligations.InitLengthErrorsZeroise := fun s _ _ hs hlengths =>
  ⟨exec_of_silent_effect hs (initEffect_of_wrong_length true hlengths s.arch _),
    exec_of_silent_effect hs (initEffect_of_wrong_length false hlengths s.arch _)⟩

/-- Settles O30 (R62, R78): RESET needs no operand, and only the phase decides what it does. -/
theorem resetRestartsSession : Obligations.ResetRestartsSession := by
  refine ⟨fun w => ?_, fun s => ⟨fun hsession => ?_, fun hnone => ?_⟩⟩
  · obtain ⟨-, -, -, -, -, hword, -⟩ := decodeFollowsOpcodeTable w 0 0
    exact hword
  · exact exec_of_silent_effect (Nat.zero_le _) (if_neg hsession)
  · exact exec_of_silent_effect (Nat.zero_le _) (if_pos hnone)

end Sys2Proof.Machine

/-! PROOFS about 42_aad: what AAD leaves (R80), its effect on an open stream delivered without output. -/

namespace Sys2Proof.Machine

/-- Settles O32 (R60, R64, R80): on an open stream AAD drains the joined bytes (`aadDrain`), whatever is presented after its
operand. -/
theorem aadAbsorbsBlocks : Obligations.AadAbsorbsBlocks := by
  intro s ilen hopen hsupplied
  have heffect : commandEffect s.cfg (.aad ilen) s.arch (s.din.take ilen) =
      (aadDrain s.cfg ((s.arch.abuf ++ s.din.take ilen).length / s.cfg.r) s.arch (s.din.take ilen), []) := by
    rw [commandEffect, List.take_take, Nat.min_self, aadEffect_of_open s.cfg _ hopen]
  exact exec_of_silent_effect hsupplied heffect

end Sys2Proof.Machine

/-! PROOFS about 43_data: what DATA leaves and emits (R81), the message drained by the blocks of R71 and the output delivered
to a host that accepts it. -/

namespace Sys2Proof.Machine

/-- A command with its operand presented completes with its effect where the host accepts the output (R50). -/
theorem exec_of_accepted_effect {i : Instr} {s : State} {a : Arch} {out : List Byte} (hsupplied : s.Supplies i.oplen)
    (heffect : commandEffect s.cfg i s.arch (s.din.take i.oplen) = (a, out))
    (haccepted : accepts s.room out.length = true) :
    exec i s = .next (s.done i.oplen a out) := by
  rw [exec_eq_deliver, if_pos hsupplied, heffect]
  exact deliver_of_accepts haccepted

/-- Before FINAL a session's message stream stands where its own registers say. -/
theorem messageAt_self (C : Cfg) {a : Arch} (hrunning : a.aadOpen = true ∨ a.phase = .processing) :
    MessageAt C a.dir a.key (messageStart C a) a.dbuf a := ⟨hrunning, rfl, rfl, rfl, rfl⟩

/-- With a session running and OCAP no smaller than the output, DATA drains the blocks that R71 counts (R81). -/
theorem dataEffect_of_running {C : Cfg} {ilen ocap : Nat} {a : Arch} {D : List Byte}
    (hrunning : a.aadOpen = true ∨ a.phase = .processing) (hD : D.length = ilen)
    (hcap : C.r * dataBlocks C a.dir a.dbuf.length ilen ≤ ocap) :
    dataEffect C ilen ocap a D =
      let d := dataDrain C (dataBlocks C a.dir a.dbuf.length ilen) a D
      (d.1.setStatus .ok d.2.length, d.2) := by
  subst hD
  obtain ⟨huninit, hfin⟩ := (messageAt_self C hrunning).not_refused
  exact dataEffect_of_fits huninit hfin hcap

/-- Draining emits no more than the bytes of its blocks, whatever the width of `st` (R67). -/
theorem dataDrain_out_length_le (C : Cfg) (nb : Nat) (a : Arch) (D : List Byte) :
    (dataDrain C nb a D).2.length ≤ C.r * nb :=
  (absorbedMsg_out_length_le C a.dir (messageStart C a) _).trans (blocksOf_total_le C.r nb (a.dbuf ++ D))

/-- Settles O33 (R65 to R67, R71, R81): DATA drains the buffered and the new bytes as one stream (`dataDrain`), and a host that
accepts the bytes of every drained block accepts the output. -/
theorem dataTransformsBlocks : Obligations.DataTransformsBlocks := by
  intro s ilen ocap hrunning hsupplied nb hcap haccepts
  have hoperand : (s.din.take ilen).length = ilen := List.length_take_of_le hsupplied
  have heffect : commandEffect s.cfg (.data ilen ocap) s.arch (s.din.take ilen) =
      let d := dataDrain s.cfg nb s.arch (s.din.take ilen)
      (d.1.setStatus .ok d.2.length, d.2) := by
    rw [commandEffect, List.take_take, Nat.min_self, dataEffect_of_running hrunning hoperand hcap]
  exact exec_of_accepted_effect hsupplied heffect (accepts_mono haccepts (dataDrain_out_length_le ..))

end Sys2Proof.Machine

/-! PROOFS about 44_finalize: what FINAL leaves and emits in either direction (R82, R83), each branch of its effect delivered,
and that it alone gives a session its tag (R85). -/

namespace Sys2Proof.Machine

/-! ### The branches of FINAL -/

section Branches

variable {C : Cfg} {ocap : Nat} {a : Arch}

/-- FINAL runs the branch of the session's direction. -/
theorem commandEffect_final_of_encrypting (hdir : a.dir = true) (op : List Byte) :
    commandEffect C (.final ocap) a op = finalEncEffect C ocap a := if_pos hdir

theorem commandEffect_final_of_decrypting (hdir : a.dir = false) (op : List Byte) :
    commandEffect C (.final ocap) a op = finalDecEffect C ocap a := if_neg (Bool.eq_false_iff.1 hdir)

/-- With a session running and OCAP no smaller than the output, FINAL when encrypting closes both streams and derives the
tag (R82). -/
theorem finalEncEffect_of_running (hrunning : a.aadOpen = true ∨ a.phase = .processing)
    (hcap : a.dbuf.length + C.t ≤ ocap) :
    finalEncEffect C ocap a =
      let m := closedMsg C a.dir (messageStart C a) a.dbuf
      let out := m.2 ++ tagOf C a.key m.1
      (finalizedArch C m.1 .ok out.length a, out) := by
  obtain ⟨huninit, hfin⟩ := (messageAt_self C hrunning).not_refused
  rw [finalEncEffect, if_neg huninit, if_neg hfin, if_neg (Nat.not_lt_of_le hcap)]

/-- Input shorter than a tag ends the session before anything is computed, whatever OCAP is (R83). -/
theorem finalDecEffect_of_short (hrunning : a.aadOpen = true ∨ a.phase = .processing) (hshort : a.dbuf.length < C.t) :
    finalDecEffect C ocap a =
      ({ a with
         phase := .finalized, abuf := [], dbuf := [], pending := false, tag := none, err := .authenticationFailure
         olen := 0 }, []) := by
  obtain ⟨huninit, hfin⟩ := (messageAt_self C hrunning).not_refused
  simp only [finalDecEffect, if_neg huninit, if_neg hfin, if_pos hshort]

/-- The derived and the received tag have one width, so the comparison of R70 is equality. -/
theorem tagEqual_received_iff (hC : C.wellFormed = true) (htag : C.t ≤ a.dbuf.length) (key st : List Byte) :
    tagEqual (tagOf C key st) (a.dbuf.drop (a.dbuf.length - C.t)) = true ↔
      tagOf C key st = a.dbuf.drop (a.dbuf.length - C.t) :=
  tagEqualIsEquality _ _ (by rw [tagOf_length hC, List.length_drop, Nat.sub_sub_self htag])

/-- With a session running, a tag received and OCAP no smaller than the plaintext, FINAL when decrypting closes both streams
and derives the tag; what it received decides only the result and whether the plaintext is released (R83). -/
theorem finalDecEffect_of_running (hC : C.wellFormed = true) (hrunning : a.aadOpen = true ∨ a.phase = .processing)
    (htag : C.t ≤ a.dbuf.length) (hcap : a.dbuf.length - C.t ≤ ocap) :
    finalDecEffect C ocap a =
      let m := closedMsg C a.dir (messageStart C a) (a.dbuf.take (a.dbuf.length - C.t))
      if tagOf C a.key m.1 = a.dbuf.drop (a.dbuf.length - C.t) then (finalizedArch C m.1 .ok m.2.length a, m.2)
      else (finalizedArch C m.1 .authenticationFailure 0 a, []) := by
  obtain ⟨huninit, hfin⟩ := (messageAt_self C hrunning).not_refused
  simp only [finalDecEffect, if_neg huninit, if_neg hfin, if_neg (Nat.not_lt_of_le htag), if_neg (Nat.not_lt_of_le hcap),
    tagEqual_received_iff hC htag]

/-- The check of the input's length stands before every permutation of FINAL (R83). -/
theorem commandCalls_final_of_short (hrunning : a.aadOpen = true ∨ a.phase = .processing) (hdir : a.dir = false)
    (hshort : a.dbuf.length < C.t) (op : List Byte) : commandCalls C (.final ocap) a op = [] := by
  obtain ⟨huninit, hfin⟩ := (messageAt_self C hrunning).not_refused
  rw [commandCalls, Instr.rule, finalRule, Work.start_arch, if_neg (Bool.eq_false_iff.1 hdir)]
  exact congrArg Work.calls ((if_neg huninit).trans ((if_neg hfin).trans (if_pos hshort)))

end Branches

/-! ### What the commands do to the tag (R28, R85) -/

section Tag

variable {C : Cfg} {a : Arch}

theorem initEffect_tag (dir : Bool) (klen nlen : Nat) (op : List Byte) :
    (initEffect C dir klen nlen a op).1.tag = none := by
  unfold initEffect
  split_ifs <;> rfl

/-- RESET leaves no tag; where it is refused there was none (R33, R78). -/
theorem resetEffect_tag (ha : a.PhaseInv C) : (resetEffect C a).1.tag = none := by
  unfold resetEffect
  split
  next huninit => exact tag_eq_none_of_not_finalized (a := a) ha (by rw [huninit]; nofun)
  · rfl

theorem finalEncEffect_tag_eq_or_finalized (ocap : Nat) :
    (finalEncEffect C ocap a).1.tag = a.tag ∨ (finalEncEffect C ocap a).1.phase = .finalized := by
  simp only [finalEncEffect]
  split
  · exact .inl rfl
  split
  · exact .inl rfl
  split
  · exact .inl rfl
  · exact .inr rfl

theorem finalDecEffect_tag_eq_or_finalized (ocap : Nat) :
    (finalDecEffect C ocap a).1.tag = a.tag ∨ (finalDecEffect C ocap a).1.phase = .finalized := by
  simp only [finalDecEffect]
  split
  · exact .inl rfl
  split
  · exact .inl rfl
  split
  · exact .inr rfl
  split
  · exact .inl rfl
  split
  · exact .inr rfl
  · exact .inr rfl

/-- FINAL writes the tag only where it ends the session. -/
theorem commandEffect_final_tag_eq_or_finalized (ocap : Nat) (op : List Byte) :
    (commandEffect C (.final ocap) a op).1.tag = a.tag ∨ (commandEffect C (.final ocap) a op).1.phase = .finalized := by
  rw [commandEffect]
  split
  · exact finalEncEffect_tag_eq_or_finalized ocap
  · exact finalDecEffect_tag_eq_or_finalized ocap

/-- The commands that carry a session's streams: AAD, DATA and FINAL. -/
inductive IsStream : Instr → Prop
  | aad (ilen : Nat) : IsStream (.aad ilen)
  | data (ilen ocap : Nat) : IsStream (.data ilen ocap)
  | final (ocap : Nat) : IsStream (.final ocap)

/-- A finalized session refuses every stream command (R89). -/
theorem commandEffect_stream_of_finalized {i : Instr} (hi : IsStream i) (h : a.phase = .finalized) (op : List Byte) :
    commandEffect C i a op = refusedEffect .protocolSequenceError a := by
  have huninit : a.phase ≠ .uninitialized := by rw [h]; nofun
  cases hi with
  | aad ilen => rw [commandEffect, aadEffect, if_neg huninit, if_pos (.inr h)]
  | data ilen ocap => rw [commandEffect, dataEffect, if_neg huninit, if_pos h]
  | final ocap =>
    rw [commandEffect, finalEncEffect, finalDecEffect, if_neg huninit, if_pos h, if_neg huninit, if_pos h, ite_self]

end Tag

/-! ### The obligations -/

/-- Settles O34 (R65, R68, R69, R82): the closing bytes are no more than the buffered ones, so a host that accepts those and a
tag accepts the output. -/
theorem finalEncryptEmitsTag : Obligations.FinalEncryptEmitsTag := by
  intro s ocap hrunning hdir hcap haccepts m T
  have heffect : commandEffect s.cfg (.final ocap) s.arch (s.din.take 0) =
      (finalizedArch s.cfg m.1 .ok (m.2 ++ T).length s.arch, m.2 ++ T) := by
    rw [commandEffect_final_of_encrypting hdir, finalEncEffect_of_running hrunning hcap, hdir]
  have hlen : (m.2 ++ T).length ≤ s.arch.dbuf.length + s.cfg.t :=
    List.length_append.trans_le (Nat.add_le_add (closedMsg_out_length_le ..) (tagOf_length_le ..))
  exact exec_of_accepted_effect (Nat.zero_le _) heffect (accepts_mono haccepts hlen)

/-- Settles O35 (R65, R68 to R70, R83): the tag agrees, and the plaintext is no longer than the bytes before it. -/
theorem finalDecryptReleases : Obligations.FinalDecryptReleases := by
  intro s ocap hrunning hdir htag hcap haccepts m T hmatch
  have heffect : commandEffect s.cfg (.final ocap) s.arch (s.din.take 0) =
      (finalizedArch s.cfg m.1 .ok m.2.length s.arch, m.2) := by
    rw [commandEffect_final_of_decrypting hdir, finalDecEffect_of_running s.cfg_wellFormed hrunning htag hcap, hdir]
    exact if_pos hmatch
  have hlen : m.2.length ≤ s.arch.dbuf.length - s.cfg.t :=
    (closedMsg_out_length_le ..).trans (List.length_take_le _ _)
  exact exec_of_accepted_effect (Nat.zero_le _) heffect (accepts_mono haccepts hlen)

/-- Settles O36 (R83, R87): the tag differs, and what was decrypted is not released. -/
theorem finalDecryptRejects : Obligations.FinalDecryptRejects := by
  intro s ocap hrunning hdir htag hcap m T hdiffers
  have heffect : commandEffect s.cfg (.final ocap) s.arch (s.din.take 0) =
      (finalizedArch s.cfg m.1 .authenticationFailure 0 s.arch, []) := by
    rw [commandEffect_final_of_decrypting hdir, finalDecEffect_of_running s.cfg_wellFormed hrunning htag hcap, hdir]
    exact if_neg hdiffers
  exact exec_of_silent_effect (Nat.zero_le _) heffect

/-- Settles O37 (R83, R87): the length check precedes OCAP's and every call. -/
theorem finalDecryptShortInput : Obligations.FinalDecryptShortInput := by
  intro s ocap hrunning hdir hshort
  have heffect := (commandEffect_final_of_decrypting hdir (s.din.take 0)).trans
    (finalDecEffect_of_short (ocap := ocap) hrunning hshort)
  exact ⟨exec_of_silent_effect (Nat.zero_le _) heffect, commandCalls_final_of_short hrunning hdir hshort []⟩

/-- Settles O44 (R28, R85): before FINALIZED the invariant leaves no tag, so the FINAL that ends the session writes its only
one; in FINALIZED the stream commands are refused. -/
theorem oneTagPerSession : Obligations.OneTagPerSession := by
  intro i s t hs h
  obtain ⟨⟨-, hphase⟩, -⟩ := hs
  obtain ⟨-, rfl⟩ := exec_next_effect h
  rw [State.done_arch]
  have hrefused (hi : IsStream i) (hfin : s.arch.phase = .finalized) :=
    commandEffect_stream_of_finalized (C := s.cfg) hi hfin (s.din.take i.oplen)
  refine ⟨fun hne => ?_, fun hfin => ?_⟩
  · cases i with
    | initEnc klen nlen => exact initEffect_tag true klen nlen _
    | initDec klen nlen => exact initEffect_tag false klen nlen _
    | aad ilen =>
      obtain ⟨-, -, -, htag⟩ := aadEffect_frame s.cfg s.arch ((s.din.take ilen).take ilen)
      exact hne htag
    | data ilen ocap =>
      obtain ⟨-, htag⟩ := dataEffect_frame s.cfg ilen ocap s.arch ((s.din.take ilen).take ilen)
      exact hne htag
    | final ocap =>
      have hopen : s.arch.phase ≠ .finalized := fun hfin =>
        hne (by rw [hrefused (.final ocap) hfin]; rfl)
      exact ⟨tag_eq_none_of_not_finalized hphase hopen, hopen,
        (commandEffect_final_tag_eq_or_finalized ocap _).resolve_left hne⟩
    | reset => exact resetEffect_tag hphase
    | clear => exact zeroiseArch_tag s.cfg s.arch
  · cases i with
    | initEnc klen nlen => trivial
    | initDec klen nlen => trivial
    | aad ilen => rw [hrefused (.aad ilen) hfin]; exact ⟨rfl, rfl⟩
    | data ilen ocap => rw [hrefused (.data ilen ocap) hfin]; exact ⟨rfl, rfl⟩
    | final ocap => rw [hrefused (.final ocap) hfin]; exact ⟨rfl, rfl⟩
    | reset => trivial
    | clear => trivial

end Sys2Proof.Machine

/-! PROOFS about 60_exceptions: the result code of every command (R86, R88), what each code leaves of the state (R87), and the
command by phase table (R89), which is the two together. -/

namespace Sys2Proof

/-- The phase after a command that completes with OK (R89). -/
def Instr.phaseAfterOk : Instr → Phase
  | .initEnc _ _ | .initDec _ _ | .reset => .initialized
  | .aad _ => .absorbingAad
  | .data _ _ => .processing
  | .final _ => .finalized
  | .clear => .uninitialized

theorem Cfg.tag_pos {C : Cfg} (h : C.wellFormed = true) : 0 < C.t := by
  obtain ⟨-, ⟨htag, -⟩, -⟩ := C.wellFormed_iff.1 h
  exact htag

namespace Machine

/-! ### The causes of each result code, in their order (R88) -/

section Causes

variable {C : Cfg} {a : Arch}

theorem initEffect_err (dir : Bool) (klen nlen : Nat) (op : List Byte) :
    (initEffect C dir klen nlen a op).1.err =
      if klen ≠ C.k then .invalidKeyLength else if nlen ≠ C.n then .invalidNonceLength else .ok := by
  unfold initEffect
  split_ifs <;> rfl

theorem aadEffect_err (A : List Byte) :
    (aadEffect C a A).1.err =
      if a.phase = .uninitialized then .notInitialized
      else if a.phase = .processing ∨ a.phase = .finalized then .protocolSequenceError else .ok := by
  unfold aadEffect
  split_ifs <;> rfl

theorem dataEffect_err (ilen ocap : Nat) (D : List Byte) :
    (dataEffect C ilen ocap a D).1.err =
      if a.phase = .uninitialized then .notInitialized
      else if a.phase = .finalized then .protocolSequenceError
      else if ocap < C.r * dataBlocks C a.dir a.dbuf.length ilen then .bufferTooShort else .ok := by
  simp only [dataEffect]
  split_ifs <;> rfl

theorem finalEncEffect_err (ocap : Nat) :
    (finalEncEffect C ocap a).1.err =
      if a.phase = .uninitialized then .notInitialized
      else if a.phase = .finalized then .protocolSequenceError
      else if ocap < a.dbuf.length + C.t then .bufferTooShort else .ok := by
  unfold finalEncEffect
  split_ifs <;> rfl

/-- The comparison of R70 stands for equality once there are as many bytes as a tag has. -/
theorem finalDecEffect_err (hC : C.wellFormed = true) (ocap : Nat) :
    (finalDecEffect C ocap a).1.err =
      if a.phase = .uninitialized then .notInitialized
      else if a.phase = .finalized then .protocolSequenceError
      else if a.dbuf.length < C.t then .authenticationFailure
      else if ocap < a.dbuf.length - C.t then .bufferTooShort
      else if tagOf C a.key (closedMsg C a.dir (messageStart C a) (a.dbuf.take (a.dbuf.length - C.t))).1
          = a.dbuf.drop (a.dbuf.length - C.t) then .ok
      else .authenticationFailure := by
  by_cases htag : a.dbuf.length < C.t
  · simp only [finalDecEffect, if_pos htag]
    split_ifs <;> rfl
  · simp only [finalDecEffect, if_neg htag, tagEqual_received_iff hC (Nat.le_of_not_lt htag)]
    split_ifs <;> rfl

theorem resetEffect_err :
    (resetEffect C a).1.err = if a.phase = .uninitialized then .notInitialized else .ok := by
  unfold resetEffect
  split_ifs <;> rfl

end Causes

/-! ### What each result code leaves (R87) -/

/-- What FINAL leaves when too few bytes were received for a tag (R83). -/
def shortFinalArch (a : Arch) : Arch :=
  { a with
    phase := .finalized, abuf := [], dbuf := [], pending := false, tag := none, err := .authenticationFailure, olen := 0 }

/-- R87 row by row: what the state and output `p` that command `i` leaves of the state `a` must be, by `p`'s result code. No
command completes with IllegalCommand, which belongs to illegal words. -/
def LeftByResult (C : Cfg) (i : Instr) (a : Arch) (p : Arch × List Byte) : Prop :=
  match p.1.err with
  | .ok => p.1.phase = i.phaseAfterOk
  | .protocolSequenceError | .notInitialized | .bufferTooShort => p = refusedEffect p.1.err a
  | .invalidKeyLength | .invalidNonceLength => p = ({ Arch.reset C with err := p.1.err }, [])
  | .authenticationFailure =>
    (∃ ocap, i = .final ocap) ∧
      if a.dbuf.length < C.t then p = (shortFinalArch a, [])
      else ∃ st, p = (finalizedArch C st .authenticationFailure 0 a, [])
  | .illegalCommand => False

section Leaves

variable {C : Cfg} {a : Arch}

theorem initEffect_left {i : Instr} (hi : i.phaseAfterOk = .initialized) (dir : Bool) (klen nlen : Nat) (op : List Byte) :
    LeftByResult C i a (initEffect C dir klen nlen a op) := by
  unfold initEffect
  split
  · exact rfl
  split
  · exact rfl
  · exact hi.symm

theorem aadEffect_left (ilen : Nat) (A : List Byte) : LeftByResult C (.aad ilen) a (aadEffect C a A) := by
  unfold aadEffect
  split_ifs <;> exact rfl

theorem dataEffect_left (ilen ocap : Nat) (D : List Byte) :
    LeftByResult C (.data ilen ocap) a (dataEffect C ilen ocap a D) := by
  simp only [dataEffect]
  split_ifs <;> exact rfl

theorem finalEncEffect_left (ocap : Nat) : LeftByResult C (.final ocap) a (finalEncEffect C ocap a) := by
  unfold finalEncEffect
  split_ifs <;> exact rfl

theorem finalDecEffect_left (ocap : Nat) : LeftByResult C (.final ocap) a (finalDecEffect C ocap a) := by
  simp only [finalDecEffect]
  split
  · exact rfl
  split
  · exact rfl
  split
  next hshort => exact ⟨⟨ocap, rfl⟩, (if_pos hshort).mpr rfl⟩
  next hlong =>
    split
    · exact rfl
    split
    · exact rfl
    · exact ⟨⟨ocap, rfl⟩, (if_neg hlong).mpr ⟨_, rfl⟩⟩

theorem resetEffect_left : LeftByResult C .reset a (resetEffect C a) := by
  unfold resetEffect
  split_ifs <;> exact rfl

/-- Every command leaves what R87 says of the code it completes with. -/
theorem commandEffect_left (i : Instr) (op : List Byte) : LeftByResult C i a (commandEffect C i a op) := by
  cases i with
  | initEnc klen nlen => exact initEffect_left rfl true klen nlen op
  | initDec klen nlen => exact initEffect_left rfl false klen nlen op
  | aad ilen => exact aadEffect_left ilen _
  | data ilen ocap => exact dataEffect_left ilen ocap _
  | final ocap =>
    rw [commandEffect]
    split
    · exact finalEncEffect_left ocap
    · exact finalDecEffect_left ocap
  | reset => exact resetEffect_left
  | clear => exact rfl

end Leaves

/-! ### The rows of R87, read off -/

namespace LeftByResult

variable {C : Cfg} {i : Instr} {a : Arch} {p : Arch × List Byte}

theorem err_ne_illegalCommand (h : LeftByResult C i a p) : p.1.err ≠ .illegalCommand := by
  intro he
  simp only [LeftByResult, he] at h

/-- Three errors write STATUS and nothing else. -/
theorem eq_refused (h : LeftByResult C i a p)
    (he : p.1.err = .protocolSequenceError ∨ p.1.err = .notInitialized ∨ p.1.err = .bufferTooShort) :
    p = refusedEffect p.1.err a := by
  unfold LeftByResult at h
  obtain he | he | he := he <;> simpa only [he] using h

/-- A length error leaves the reset values (R73). -/
theorem eq_zeroised (h : LeftByResult C i a p) (he : p.1.err = .invalidKeyLength ∨ p.1.err = .invalidNonceLength) :
    p = ({ Arch.reset C with err := p.1.err }, []) := by
  unfold LeftByResult at h
  obtain he | he := he <;> simpa only [he] using h

/-- A failed verification is FINAL's, and it ends the session on either ground. -/
theorem final_of_authenticationFailure (h : LeftByResult C i a p) (he : p.1.err = .authenticationFailure) :
    (∃ ocap, i = .final ocap) ∧
      (a.dbuf.length < C.t ∧ p = (shortFinalArch a, []) ∨
        C.t ≤ a.dbuf.length ∧ ∃ st, p = (finalizedArch C st .authenticationFailure 0 a, [])) := by
  simp only [LeftByResult, he] at h
  obtain ⟨hfinal, hleft⟩ := h
  refine ⟨hfinal, ?_⟩
  split at hleft
  next hshort => exact .inl ⟨hshort, hleft⟩
  next hlong => exact .inr ⟨Nat.le_of_not_lt hlong, hleft⟩

end LeftByResult

/-! ### The phase after each result code (R89) -/

/-- The phase after a command begun in `phase`, as its result code decides it. -/
def phaseAfter (i : Instr) (phase : Phase) : ResultCode → Phase
  | .ok => i.phaseAfterOk
  | .protocolSequenceError | .notInitialized | .bufferTooShort | .illegalCommand => phase
  | .invalidKeyLength | .invalidNonceLength => .uninitialized
  | .authenticationFailure => .finalized

theorem LeftByResult.phase_eq {C : Cfg} {i : Instr} {a : Arch} {p : Arch × List Byte} (h : LeftByResult C i a p) :
    p.1.phase = phaseAfter i a.phase p.1.err := by
  cases he : p.1.err with
  | ok =>
    simp only [LeftByResult, he] at h
    exact h
  | protocolSequenceError => rw [h.eq_refused (.inl he)]; rfl
  | notInitialized => rw [h.eq_refused (.inr (.inl he))]; rfl
  | bufferTooShort => rw [h.eq_refused (.inr (.inr he))]; rfl
  | invalidKeyLength => rw [h.eq_zeroised (.inl he)]; rfl
  | invalidNonceLength => rw [h.eq_zeroised (.inr he)]; rfl
  | authenticationFailure =>
    obtain ⟨-, ⟨-, rfl⟩ | ⟨-, st, rfl⟩⟩ := h.final_of_authenticationFailure he
    · rfl
    · rfl
  | illegalCommand => exact absurd he h.err_ne_illegalCommand

section Cells

variable {C : Cfg} {a : Arch}

/-- A cell of R89's table: the result code carries the phase with it. -/
theorem commandEffect_cell {i : Instr} {op : List Byte} {phase : Phase} {e : ResultCode} (hphase : a.phase = phase)
    (he : (commandEffect C i a op).1.err = e) :
    (commandEffect C i a op).1.err = e ∧ (commandEffect C i a op).1.phase = phaseAfter i phase e := by
  subst hphase he
  exact ⟨rfl, (commandEffect_left i op).phase_eq⟩

/-- INIT's row: the phase before it is not read. -/
theorem initEffect_row (dir : Bool) (klen nlen : Nat) (op : List Byte) :
    let p := initEffect C dir klen nlen a op
    if klen = C.k ∧ nlen = C.n then p.1.err = .ok ∧ p.1.phase = .initialized
    else (p.1.err = .invalidKeyLength ∨ p.1.err = .invalidNonceLength) ∧ p.1.phase = .uninitialized := by
  intro p
  split
  next hlengths =>
    obtain ⟨rfl, rfl⟩ := hlengths
    simp [p, initEffect]
  next hlengths =>
    have hp : p = _ := initEffect_of_wrong_length dir hlengths a op
    rw [hp]
    refine ⟨?_, rfl⟩
    unfold initLengthError
    split
    · exact .inr rfl
    · exact .inl rfl

/-- With no session the stream commands are refused. -/
theorem stream_cell_of_uninitialized {i : Instr} (hi : IsStream i) (op : List Byte) (h : a.phase = .uninitialized) :
    (commandEffect C i a op).1.err = .notInitialized ∧ (commandEffect C i a op).1.phase = .uninitialized := by
  have hrefused : commandEffect C i a op = refusedEffect .notInitialized a := by
    cases hi <;> exact commandEffect_of_uninitialized C op (fun _ _ => nofun) (fun _ _ => nofun) nofun h
  rw [hrefused]
  exact ⟨rfl, h⟩

/-- A finalized session refuses them too. -/
theorem stream_cell_of_finalized {i : Instr} (hi : IsStream i) (op : List Byte) (h : a.phase = .finalized) :
    (commandEffect C i a op).1.err = .protocolSequenceError ∧ (commandEffect C i a op).1.phase = .finalized := by
  rw [commandEffect_stream_of_finalized hi h]
  exact ⟨rfl, h⟩

/-- DATA in a session: its output fits OCAP or it is refused (R81). -/
theorem data_cell (ilen ocap : Nat) (op : List Byte) {phase : Phase} (hphase : a.phase = phase)
    (huninit : phase ≠ .uninitialized) (hfin : phase ≠ .finalized) :
    let b := (commandEffect C (.data ilen ocap) a op).1
    (b.err = .ok ∧ b.phase = .processing) ∨ (b.err = .bufferTooShort ∧ b.phase = phase) := by
  have herr := dataEffect_err (C := C) (a := a) ilen ocap (op.take ilen)
  rw [hphase, if_neg huninit, if_neg hfin] at herr
  split at herr
  · exact .inr (commandEffect_cell hphase herr)
  · exact .inl (commandEffect_cell hphase herr)

/-- FINAL when encrypting: its output fits OCAP or it is refused (R82). -/
theorem final_encrypting_cell (ocap : Nat) (op : List Byte) {phase : Phase} (hphase : a.phase = phase)
    (huninit : phase ≠ .uninitialized) (hfin : phase ≠ .finalized) (hdir : a.dir = true) :
    let b := (commandEffect C (.final ocap) a op).1
    (b.err = .ok ∧ b.phase = .finalized) ∨ (b.err = .bufferTooShort ∧ b.phase = phase) := by
  have herr := finalEncEffect_err (C := C) (a := a) ocap
  rw [hphase, if_neg huninit, if_neg hfin, ← commandEffect_final_of_encrypting hdir op] at herr
  split at herr
  · exact .inr (commandEffect_cell hphase herr)
  · exact .inl (commandEffect_cell hphase herr)

/-- FINAL when decrypting fewer bytes than a tag (R83). -/
theorem final_short_cell (ocap : Nat) (op : List Byte) {phase : Phase} (hphase : a.phase = phase)
    (huninit : phase ≠ .uninitialized) (hfin : phase ≠ .finalized) (hdir : a.dir = false) (hshort : a.dbuf.length < C.t) :
    let b := (commandEffect C (.final ocap) a op).1
    b.err = .authenticationFailure ∧ b.phase = .finalized := by
  refine commandEffect_cell (e := .authenticationFailure) hphase ?_
  subst hphase
  simp only [commandEffect_final_of_decrypting hdir, finalDecEffect, if_neg huninit, if_neg hfin, if_pos hshort]

/-- FINAL when decrypting: verified or not, or its output does not fit OCAP (R83). -/
theorem final_decrypting_cell (hC : C.wellFormed = true) (ocap : Nat) (op : List Byte) {phase : Phase}
    (hphase : a.phase = phase) (huninit : phase ≠ .uninitialized) (hfin : phase ≠ .finalized) (hdir : a.dir = false) :
    let b := (commandEffect C (.final ocap) a op).1
    ((b.err = .ok ∨ b.err = .authenticationFailure) ∧ b.phase = .finalized) ∨
      (b.err = .bufferTooShort ∧ b.phase = phase) := by
  have herr := finalDecEffect_err (a := a) hC ocap
  rw [hphase, if_neg huninit, if_neg hfin, ← commandEffect_final_of_decrypting hdir op] at herr
  have ends {e : ResultCode} (he : (commandEffect C (.final ocap) a op).1.err = e) := commandEffect_cell hphase he
  split_ifs at herr
  · exact .inl ((ends herr).imp_left .inr)
  · exact .inr (ends herr)
  · exact .inl ((ends herr).imp_left .inl)
  · exact .inl ((ends herr).imp_left .inr)

end Cells

/-! ### The obligations -/

/-- Settles O38 (R86, R88): the branches of each effect, in their order. -/
theorem errorCauses : Obligations.ErrorCauses := by
  intro i s t h
  obtain ⟨-, rfl⟩ := exec_next_effect h
  rw [State.done_arch]
  cases i with
  | initEnc klen nlen => exact initEffect_err true klen nlen _
  | initDec klen nlen => exact initEffect_err false klen nlen _
  | aad ilen => exact aadEffect_err _
  | data ilen ocap => exact dataEffect_err ilen ocap _
  | final ocap =>
    cases hdir : s.arch.dir with
    | true =>
      rw [commandEffect_final_of_encrypting hdir, finalEncEffect_err]
      rfl
    | false =>
      rw [commandEffect_final_of_decrypting hdir, finalDecEffect_err s.cfg_wellFormed, hdir]
      rfl
  | reset => exact resetEffect_err
  | clear => rfl

theorem cmdReady_done (s : State) (need : Nat) (a : Arch) (out : List Byte) : cmdReady (s.done need a out) = s.rstN :=
  Bool.and_true _

/-- Settles O39 (R73, R87): each code leaves its row of R87; the invariant has emptied the AAD residue of a stream that is
closed. -/
theorem errorEffects : Obligations.ErrorEffects := by
  intro i s t hs h
  obtain ⟨⟨-, hphase⟩, -⟩ := hs
  obtain ⟨-, rfl⟩ := exec_next_effect h
  have hleft := commandEffect_left (C := s.cfg) (a := s.arch) i (s.din.take i.oplen)
  generalize commandEffect s.cfg i s.arch (s.din.take i.oplen) = p at hleft ⊢
  refine ⟨hleft.err_ne_illegalCommand, fun he => ?_, fun he => ?_, fun he => ?_, cmdReady_done ..⟩
  · exact congrArg (fun q : Arch × List Byte => s.done i.oplen q.1 q.2) (hleft.eq_refused he)
  · exact congrArg (fun q : Arch × List Byte => s.done i.oplen q.1 q.2) (hleft.eq_zeroised he)
  · obtain ⟨hfinal, ⟨hshort, rfl⟩ | ⟨hlong, st, rfl⟩⟩ := hleft.final_of_authenticationFailure he
    · exact ⟨hfinal, rfl, rfl, rfl, rfl, rfl, List.append_nil _, fun _ => ⟨rfl, rfl⟩,
        fun hlong => absurd hshort (Nat.not_lt_of_le hlong)⟩
    · exact ⟨hfinal, rfl, abuf_eq_nil_of_closed hphase, rfl, rfl, rfl, List.append_nil _,
        fun hshort => absurd hshort (Nat.not_lt_of_le hlong), fun _ => rfl⟩

/-- Settles O40 (R89): the code of each cell is that of its causes (R88) and the phase goes with the code; with AAD still open
the invariant has no message bytes, so a decrypting FINAL finds no tag. -/
theorem phaseTable : Obligations.PhaseTable := by
  intro s t hs
  obtain ⟨⟨-, hinv⟩, -⟩ := hs
  have hC := s.cfg_wellFormed
  refine ⟨?init, ?aad, ?data, ?final, ?reset, ?clear, ?illegal⟩
  case init =>
    rintro k n (h | h)
    · obtain ⟨-, rfl⟩ := exec_next_effect h
      exact initEffect_row true k n _
    · obtain ⟨-, rfl⟩ := exec_next_effect h
      exact initEffect_row false k n _
  case aad =>
    intro n h
    obtain ⟨-, rfl⟩ := exec_next_effect h
    have herr := aadEffect_err (C := s.cfg) (a := s.arch) ((s.din.take n).take n)
    cases hphase : s.arch.phase with
    | uninitialized => exact stream_cell_of_uninitialized (.aad n) _ hphase
    | initialized | absorbingAad | processing =>
      rw [hphase] at herr
      exact commandEffect_cell hphase herr
    | finalized => exact stream_cell_of_finalized (.aad n) _ hphase
  case data =>
    intro n m h
    obtain ⟨-, rfl⟩ := exec_next_effect h
    cases hphase : s.arch.phase with
    | uninitialized => exact stream_cell_of_uninitialized (.data n m) _ hphase
    | initialized | absorbingAad | processing => exact data_cell n m _ hphase nofun nofun
    | finalized => exact stream_cell_of_finalized (.data n m) _ hphase
  case final =>
    intro m h
    obtain ⟨-, rfl⟩ := exec_next_effect h
    have hempty (hproc : s.arch.phase ≠ .processing) : s.arch.dbuf.length < s.cfg.t := by
      rw [dbuf_eq_nil_of_before_processing hinv hproc]
      exact Cfg.tag_pos hC
    cases hphase : s.arch.phase with
    | uninitialized => exact stream_cell_of_uninitialized (.final m) _ hphase
    | initialized | absorbingAad =>
      cases hdir : s.arch.dir with
      | true => exact final_encrypting_cell m _ hphase nofun nofun hdir
      | false => exact final_short_cell m _ hphase nofun nofun hdir (hempty (by rw [hphase]; nofun))
    | processing =>
      cases hdir : s.arch.dir with
      | true => exact final_encrypting_cell m _ hphase nofun nofun hdir
      | false => exact final_decrypting_cell hC m _ hphase nofun nofun hdir
    | finalized => exact stream_cell_of_finalized (.final m) _ hphase
  case reset =>
    intro h
    obtain ⟨-, rfl⟩ := exec_next_effect h
    have herr := resetEffect_err (C := s.cfg) (a := s.arch)
    split at herr
    next hnone => rw [if_pos hnone]; exact commandEffect_cell rfl herr
    next hsession => rw [if_neg hsession]; exact commandEffect_cell rfl herr
  case clear =>
    intro h
    obtain ⟨-, rfl⟩ := exec_next_effect h
    exact ⟨rfl, rfl⟩
  case illegal =>
    intro w ws e hrst hflight hcmdq hw h
    rw [illegalWordChangesOnlyStatus s w ws e hrst hflight hcmdq hw] at h
    obtain rfl := Host.Outcome.next.inj h
    exact ⟨rfl, rfl⟩

end Machine
end Sys2Proof

/-! PROOFS about 70_reset_and_hazards: hardware reset (R94), what a step runs and when it is stuck (R96, R98), its completion
edge by edge on the ports (R50, R98), and that the permutation calls of a command tell nothing but public inputs (R99). -/

namespace Sys2Proof.Machine

/-! ### Hardware reset (R94) -/

theorem clockEdge_of_reset (e : Edge) {s : State} (h : s.rstN = false) : clockEdge e s = s.hwReset := if_pos h

theorem ports_quiet_of_reset {s : State} (h : s.rstN = false) :
    cmdReady s = false ∧ dinReady s = false ∧ doutValid s = false := by
  simp [cmdReady, dinReady, doutValid, h]

/-- Settles O12 (R35, R94): the edge is `State.hwReset`, whose STATUS has every field 0. -/
theorem hardwareResetAborts : Obligations.HardwareResetAborts := by
  intro s e hrst
  obtain ⟨hcmd, hdin, hdout⟩ := ports_quiet_of_reset hrst
  obtain ⟨hparam0, hparam1⟩ := readPort_params_of_variant s.hwReset_variant
  exact ⟨clockEdge_of_reset e hrst, hcmd, hdin, hdout, rfl, BitVec.eq_of_toNat_eq (statusWord_toNat _), hparam0, hparam1⟩

/-! ### The step of a decoded command (R98) -/

/-- Settles O23 (R36, R44, R50, R98): a presented word and a word in flight run the rule and take the operand of the command
they decode to. -/
theorem stepRunsDecodedCommand : Obligations.StepRunsDecodedCommand :=
  ⟨fun _ _ _ _ hrst hflight hcmdq hw => (step_of_presented hrst hflight hcmdq).trans (runCommand_of_legal hw _),
    fun _ _ _ _ hrst hflight hw => (step_of_operand hrst hflight).trans (runCommand_of_legal hw _),
    fun _ hrst hflight hcmdq => step_of_waiting hrst hflight hcmdq,
    fun _ hrst => step_of_reset hrst⟩

/-! ### When a command is stuck (R96, R98) -/

/-- Delivery can be stuck only in the output step, by a host that bounds what it accepts and with output to emit. -/
theorem deliver_fault {a : Arch} {out : List Byte} {s : State} {f : Fault} (h : deliver a out s = .fault f) :
    f = .outputBlocked ∧ s.room ≠ none ∧ out ≠ [] := by
  unfold deliver at h
  split at h
  next => cases h
  next hblocked =>
    refine ⟨(Host.Outcome.fault.inj h).symm, fun hroom => hblocked ?_, fun hout => hblocked ?_⟩
    · rw [hroom, accepts_none]
    · rw [hout, List.length_nil, accepts_zero]

/-- Only DATA and FINAL emit (R81 to R83). -/
theorem data_or_final_of_output {C : Cfg} {i : Instr} {a : Arch} {op : List Byte} (h : (commandEffect C i a op).2 ≠ []) :
    (∃ ilen ocap, i = .data ilen ocap) ∨ ∃ ocap, i = .final ocap := by
  cases i with
  | initEnc klen nlen => exact absurd (initEffect_out ..) h
  | initDec klen nlen => exact absurd (initEffect_out ..) h
  | aad ilen => exact absurd (aadEffect_frame ..).1 h
  | data ilen ocap => exact .inl ⟨ilen, ocap, rfl⟩
  | final ocap => exact .inr ⟨ocap, rfl⟩
  | reset => exact absurd (resetEffect_frame ..).1 h
  | clear => exact absurd rfl h

/-- Every fault of a command: in the operand step for want of operand bytes, or in the output step of DATA or FINAL where the
host bounds what it accepts. -/
theorem exec_fault {i : Instr} {s : State} {f : Fault} (h : exec i s = .fault f) :
    (f = .operandStarved ∧ s.din.length < i.oplen) ∨
    (f = .outputBlocked ∧ s.Supplies i.oplen ∧ s.room ≠ none ∧
      ((∃ ilen ocap, i = .data ilen ocap) ∨ ∃ ocap, i = .final ocap)) := by
  rw [exec_eq_deliver] at h
  split at h
  next hsupplied =>
    obtain ⟨hf, hroom, hout⟩ := deliver_fault h
    exact .inr ⟨hf, hsupplied, hroom, data_or_final_of_output hout⟩
  next hstarved => exact .inl ⟨(Host.Outcome.fault.inj h).symm, Nat.lt_of_not_le hstarved⟩

theorem exec_of_starved {i : Instr} {s : State} (h : s.din.length < i.oplen) : exec i s = .fault .operandStarved := by
  rw [exec_eq_deliver, if_neg (Nat.not_le_of_lt h)]

/-- Settles O25 (R96, R98): each fault names the duty the host broke (`exec_fault`). -/
theorem stuckOnlyByBrokenDuty : Obligations.StuckOnlyByBrokenDuty := by
  intro i s
  refine ⟨⟨fun h => ?_, exec_of_starved⟩, fun h => ?_, fun hsupplied haccepts => ?_⟩
  · obtain ⟨-, hstarved⟩ | ⟨hblocked, -⟩ := exec_fault h
    · exact hstarved
    · cases hblocked
  · obtain ⟨hstarved, -⟩ | ⟨-, -, hroom, hcommand⟩ := exec_fault h
    · cases hstarved
    · exact ⟨hroom, hcommand⟩
  · exact ⟨_, exec_next.2 ⟨hsupplied, by rw [haccepts, accepts_none], rfl⟩⟩

/-! ### Completion on the ports (R50, R98) -/

/-- An edge at which the host is willing on every stream and an execution ends (R49) [log 18]. -/
def Edge.moving : Edge := ⟨true, true, true, true⟩

/-- `m` such edges lead from `s` to `t`. -/
def MovesTo (m : Nat) (s t : State) : Prop := clockEdges (List.replicate m .moving) s = t

theorem movesTo_succ_iff (m : Nat) (s t : State) : MovesTo (m + 1) s t ↔ MovesTo m (clockEdge .moving s) t := Iff.rfl

section Moving

variable {s : State} {w : CmdWord} {ws : List CmdWord} {taken : List Byte} {after : Arch} (hrst : s.rstN = true)
include hrst

theorem clockEdge_moving_of_presented (hflight : s.flight = .idle) (hcmdq : s.cmdq = w :: ws) :
    clockEdge .moving s = { s with cmdq := ws, busy := true, flight := .operand w [] } := by
  simp [clockEdge, acceptEdge, Edge.moving, hrst, hflight, hcmdq]

theorem clockEdge_moving_of_operand {b : Byte} {bs : List Byte} (hflight : s.flight = .operand w taken)
    (hpartial : taken.length < wordOplen w) (hdin : s.din = b :: bs) :
    clockEdge .moving s = { s with din := bs, flight := .operand w (taken ++ [b]) } := by
  simp [clockEdge, operandEdge, Edge.moving, hrst, hflight, hpartial, hdin]

theorem clockEdge_moving_of_taken (hflight : s.flight = .operand w taken) (hfull : taken.length = wordOplen w) :
    clockEdge .moving s = executeEdge w taken s := by
  simp [clockEdge, Edge.moving, hrst, hflight, hfull]

theorem clockEdge_moving_of_output {b : Byte} {bs : List Byte} (hflight : s.flight = .output (b :: bs) after)
    (hroom : accepts s.room 1 = true) :
    clockEdge .moving s =
      if bs = [] then s.complete after [b]
      else { s with dout := s.dout ++ [b], room := s.room.map (· - 1), flight := .output bs after } := by
  simp [clockEdge, outputEdge, Edge.moving, hrst, hflight, hroom]

end Moving

/-- The output step: one edge for each byte left. -/
theorem movesTo_of_output {left : List Byte} {after : Arch} (hleft : left ≠ []) {s t : State} (hrst : s.rstN = true)
    (hflight : s.flight = .output left after) (h : deliver after left s = .next t) : MovesTo left.length s t := by
  induction left generalizing s with
  | nil => exact absurd rfl hleft
  | cons b bs ih =>
    obtain ⟨haccepts, ht⟩ := deliver_next.1 h
    have hroom : accepts s.room 1 = true := accepts_mono haccepts (Nat.succ_pos _)
    rw [List.length_cons, movesTo_succ_iff, clockEdge_moving_of_output hrst hflight hroom]
    split
    next hbs => subst hbs; exact ht.symm
    next hbs => exact ih hbs hrst rfl ((deliver_cons hroom _).trans h)

/-- With its operand taken in full, a step only delivers what the rule gives. -/
theorem step_of_taken {s : State} {w : CmdWord} {taken : List Byte} (hrst : s.rstN = true)
    (hflight : s.flight = .operand w taken) (hfull : taken.length = wordOplen w) :
    step s = deliver (wordRule s.cfg w (Work.start s.arch taken)).arch
      (wordRule s.cfg w (Work.start s.arch taken)).out s := by
  rw [step_of_operand hrst hflight]
  exact runCommand_of_taken (s := { s with flight := .idle }) hfull

/-- The execute step and the output it leaves: one edge, and one for each output byte. -/
theorem movesTo_of_taken {s t : State} {w : CmdWord} {taken : List Byte} (hrst : s.rstN = true)
    (hflight : s.flight = .operand w taken) (hfull : taken.length = wordOplen w) (h : step s = .next t) :
    MovesTo (t.dout.length - s.dout.length + 1) s t := by
  rw [step_of_taken hrst hflight hfull] at h
  obtain ⟨-, ht⟩ := deliver_next.1 h
  have hdout : t.dout.length - s.dout.length = (wordRule s.cfg w (Work.start s.arch taken)).out.length := by
    rw [ht, State.complete_dout, List.length_append, Nat.add_sub_cancel_left]
  rw [hdout, movesTo_succ_iff, clockEdge_moving_of_taken hrst hflight hfull, executeEdge]
  split
  next hsilent => rw [hsilent] at ht ⊢; exact ht.symm
  next hout => exact movesTo_of_output hout hrst rfl h

/-- The operand step and what follows it: one edge more for each operand byte not yet taken. -/
theorem movesTo_of_operand {w : CmdWord} {t : State} (missing : Nat) {s : State} {taken : List Byte}
    (hrst : s.rstN = true) (hflight : s.flight = .operand w taken) (hmissing : taken.length + missing = wordOplen w)
    (h : step s = .next t) : MovesTo (t.dout.length - s.dout.length + 1 + missing) s t := by
  induction missing generalizing s taken with
  | zero => exact movesTo_of_taken hrst hflight hmissing h
  | succ missing ih =>
    have hrun := h
    rw [step_of_operand hrst hflight] at hrun
    obtain ⟨hsupplied, -⟩ := runCommand_next.1 hrun
    cases hdin : s.din with
    | nil =>
      simp only [hdin, List.append_nil] at hsupplied
      omega
    | cons b bs =>
      have hpartial : taken.length < wordOplen w := by omega
      obtain ⟨hsame, -⟩ := (EdgeOutcome.operandByte (e := .moving) hflight hpartial rfl hdin).refines hrst
      rw [← Nat.add_assoc, movesTo_succ_iff, clockEdge_moving_of_operand hrst hflight hpartial hdin]
      refine ih (s := { s with din := bs, flight := .operand w (taken ++ [b]) }) hrst rfl ?_ ((hsame nofun).trans h)
      rw [List.length_append, List.length_singleton, Nat.add_assoc, Nat.add_comm 1, hmissing]

/-- Settles O27 (R50, R98): where both sides move at every edge the command passes through its operand, execute and output
steps without a stall, and the edges refine the step (`EdgeOutcome.refines`); the invariant is not needed. -/
theorem lifecycleCompletes : Obligations.LifecycleCompletes := by
  intro s t w ws hrst _ hflight hcmdq h
  obtain ⟨hsame, -⟩ := (EdgeOutcome.accept (e := .moving) hflight rfl hcmdq).refines hrst
  have hmoves := movesTo_of_operand (s := { s with cmdq := ws, busy := true, flight := .operand w [] }) (wordOplen w) hrst
    rfl (Nat.zero_add _) ((hsame nofun).trans h)
  refine ⟨List.replicate (t.dout.length - s.dout.length + 1 + wordOplen w + 1) .moving, ?_, ?_⟩
  · rw [List.length_replicate]
    omega
  · rw [← MovesTo, movesTo_succ_iff, clockEdge_moving_of_presented hrst hflight hcmdq]
    exact hmoves

/-! ### The permutation calls tell only public inputs (R99) -/

theorem eq_nil_iff_of_length_eq {l l' : List Byte} (h : l.length = l'.length) : l = [] ↔ l' = [] := by
  rw [← List.length_eq_zero_iff, h, List.length_eq_zero_iff]

/-- A stream closes with the same calls on residues of one length: only whether the residue is empty matters (R65, R68). -/
theorem closingMask_congr (C : Cfg) (empty padded full : Mask) (pending : Bool) {res res' : List Byte}
    (h : res.length = res'.length) :
    closingMask C empty padded full pending res = closingMask C empty padded full pending res' := by
  simp only [closingMask, ne_eq, eq_nil_iff_of_length_eq h]

theorem closingCalls_congr (C : Cfg) (interior last : PermCall) (pending : Bool) {res res' : List Byte}
    (h : res.length = res'.length) :
    closingCalls C interior last pending res = closingCalls C interior last pending res' := by
  simp only [closingCalls, ne_eq, eq_nil_iff_of_length_eq h]

/-- The calls of `n` blocks absorbed one after another: before each the deferred permutation, if one is pending, and from the
second block on one is (R25, R64, R67). -/
def interiorCalls (interior : PermCall) (pending : Bool) (n : Nat) : List PermCall :=
  List.replicate (if pending = true then n else n - 1) interior

theorem interiorCalls_succ (interior : PermCall) (pending : Bool) (n : Nat) :
    interiorCalls interior pending (n + 1) =
      (if pending = true then [interior] else []) ++ interiorCalls interior true n := by
  cases pending <;> rfl

/-- How many turns AAD's loop takes on `len` buffered bytes (R80). -/
def aadTurns (C : Cfg) : Nat → Nat → Nat
  | 0, _ => 0
  | fuel + 1, len => if C.r ≤ len then aadTurns C fuel (len - C.r) + 1 else 0

/-- The calls of AAD's loop, in full. -/
theorem drainAad_calls_eq (C : Cfg) (fuel : Nat) (x : Work) :
    (drainAad C fuel x).calls =
      x.calls ++ interiorCalls aadIntCall x.arch.pending (aadTurns C fuel x.arch.abuf.length) := by
  induction fuel generalizing x with
  | zero => simp [drainAad, aadTurns, interiorCalls]
  | succ fuel ih =>
    rw [drainAad, aadTurns]
    split
    · rw [ih, interiorCalls_succ, absorbAadBlock_calls, absorbAadBlock_arch, List.append_assoc, Work.onArch_arch,
        Arch.setAbuf_abuf, List.length_drop]
      rfl
    · simp [interiorCalls]

/-- The calls of DATA's loop, in full. -/
theorem drainMsg_calls_eq (C : Cfg) (nb : Nat) (x : Work) :
    (drainMsg C nb x).calls = x.calls ++ interiorCalls msgIntCall x.arch.pending nb := by
  induction nb generalizing x with
  | zero => simp [drainMsg, interiorCalls]
  | succ nb ih =>
    rw [drainMsg, ih, interiorCalls_succ, outEmit_calls, outEmit_arch, absorbMsgBlock_calls, absorbMsgBlock_arch,
      List.append_assoc]
    rfl

/-! ### The calls of each command, in full -/

section CommandCalls

variable (C : Cfg) (a : Arch) (op : List Byte)

theorem initRule_calls_eq (dir : Bool) (klen nlen : Nat) :
    (initRule C dir klen nlen (Work.start a op)).calls = if klen = C.k ∧ nlen = C.n then [⟨.init, none⟩] else [] := by
  simp only [initRule]
  split
  next hk => exact (if_neg fun h => hk h.1).symm
  next hk =>
  split
  next hn => exact (if_neg fun h => hn h.2).symm
  next hn => exact (if_pos ⟨not_not.1 hk, not_not.1 hn⟩).symm

theorem resetRule_calls_eq :
    (resetRule C (Work.start a op)).calls = if a.phase = .uninitialized then [] else [⟨.init, none⟩] := by
  simp only [resetRule]
  split
  next hnone => exact (if_pos hnone).symm
  next hsession => exact (if_neg hsession).symm

theorem aadRule_calls_eq (ilen : Nat) :
    (aadRule C ilen (Work.start a op)).calls =
      if a.aadOpen = true then
        interiorCalls aadIntCall a.pending
          (aadTurns C (a.abuf.length + min ilen op.length) (a.abuf.length + min ilen op.length))
      else [] := by
  cases hphase : a.phase with
  | uninitialized | processing | finalized => simp [aadRule, Arch.aadOpen, hphase]
  | initialized | absorbingAad => simp [aadRule, Arch.aadOpen, hphase, drainAad_calls_eq]

theorem dataRule_calls_eq (ilen ocap : Nat) :
    (dataRule C ilen ocap (Work.start a op)).calls =
      let nb := dataBlocks C a.dir a.dbuf.length ilen
      if a.phase = .uninitialized ∨ a.phase = .finalized ∨ ocap < C.r * nb then []
      else openAadCalls C a ++ interiorCalls msgIntCall (messageStart C a).2 nb := by
  simp only [dataRule]
  split
  next huninit => exact (if_pos (.inl huninit)).symm
  next huninit =>
  split
  next hfin => exact (if_pos (.inr (.inl hfin))).symm
  next hfin =>
  split
  next hshort => exact (if_pos (.inr (.inr hshort))).symm
  next hfits =>
    have hpass := not_or.2 ⟨huninit, not_or.2 ⟨hfin, hfits⟩⟩
    refine Eq.trans ?_ (if_neg hpass).symm
    rw [finish_calls, drainMsg_calls_eq, Work.onArch_calls, Work.onArch_calls, closeAadIfOpen_calls,
      Work.onArch_arch, Work.onArch_arch, Arch.setDbuf_pending, Arch.setPhase_pending, closeAadIfOpen_arch]
    rfl

theorem finalEncRule_calls_eq (ocap : Nat) :
    (finalEncRule C ocap (Work.start a op)).calls =
      if a.phase = .uninitialized ∨ a.phase = .finalized ∨ ocap < a.dbuf.length + C.t then []
      else finalCalls C a a.dbuf := by
  simp only [finalEncRule]
  split
  next huninit => exact (if_pos (.inl huninit)).symm
  next huninit =>
  split
  next hfin => exact (if_pos (.inr (.inl hfin))).symm
  next hfin =>
  split
  next hshort => exact (if_pos (.inr (.inr hshort))).symm
  next hfits =>
    have hpass := not_or.2 ⟨huninit, not_or.2 ⟨hfin, hfits⟩⟩
    refine Eq.trans ?_ (if_neg hpass).symm
    rw [finish_calls, outEmit_calls, Work.onArch_calls, closeAadIfOpen_dbuf, deriveTag_closeMsg_calls]

/-- Whether the tags agree decides what is emitted, not what is called (R83). -/
theorem finalDecRule_calls_eq (ocap : Nat) :
    (finalDecRule C ocap (Work.start a op)).calls =
      if a.phase = .uninitialized ∨ a.phase = .finalized ∨ a.dbuf.length < C.t ∨ ocap < a.dbuf.length - C.t then []
      else finalCalls C a (a.dbuf.take (a.dbuf.length - C.t)) := by
  simp only [finalDecRule, closeAadIfOpen_dbuf]
  split
  next huninit => exact (if_pos (.inl huninit)).symm
  next huninit =>
  split
  next hfin => exact (if_pos (.inr (.inl hfin))).symm
  next hfin =>
  split
  next hshort => exact (if_pos (.inr (.inr (.inl hshort)))).symm
  next hlong =>
  split
  next hcap => exact (if_pos (.inr (.inr (.inr hcap)))).symm
  next hfits =>
    have hpass := not_or.2 ⟨huninit, not_or.2 ⟨hfin, not_or.2 ⟨hlong, hfits⟩⟩⟩
    refine Eq.trans ?_ (if_neg hpass).symm
    rw [← deriveTag_closeMsg_calls C a op]
    split <;> rfl

variable {a}

theorem commandCalls_final_of_encrypting (hdir : a.dir = true) (ocap : Nat) :
    commandCalls C (.final ocap) a op = (finalEncRule C ocap (Work.start a op)).calls :=
  congrArg Work.calls (if_pos hdir)

theorem commandCalls_final_of_decrypting (hdir : a.dir = false) (ocap : Nat) :
    commandCalls C (.final ocap) a op = (finalDecRule C ocap (Work.start a op)).calls :=
  congrArg Work.calls (if_neg (Bool.eq_false_iff.1 hdir))

end CommandCalls

/-! ### What the calls depend on -/

section Schedule

variable {C : Cfg} {a b : Arch} (h : a.publicView = b.publicView)
include h

theorem aadOpen_congr : a.aadOpen = b.aadOpen := by
  obtain ⟨hphase, -⟩ := Arch.publicView_eq_iff.1 h
  rw [Arch.aadOpen, hphase, Arch.aadOpen]

theorem messageStart_pending_congr : (messageStart C a).2 = (messageStart C b).2 := by
  obtain ⟨-, -, hpending, -⟩ := Arch.publicView_eq_iff.1 h
  simp only [messageStart, aadOpen_congr h]
  split
  · rfl
  · exact hpending

theorem openAadCalls_congr : openAadCalls C a = openAadCalls C b := by
  obtain ⟨-, -, hpending, habuf, -⟩ := Arch.publicView_eq_iff.1 h
  rw [openAadCalls, openAadCalls, aadOpen_congr h, hpending, aadLastCall, closingMask_congr C _ _ _ _ habuf,
    closingCalls_congr C _ _ _ habuf]
  rfl

theorem finalCalls_congr {res res' : List Byte} (hres : res.length = res'.length) :
    finalCalls C a res = finalCalls C b res' := by
  rw [finalCalls, finalCalls, openAadCalls_congr h, messageStart_pending_congr h, msgLastCall,
    closingMask_congr C _ _ _ _ hres, closingCalls_congr C _ _ _ hres]
  rfl

/-- The calls of a command on a state are a function of its public view and of the operand's length (R99). -/
theorem commandCalls_congr (i : Instr) {op op' : List Byte} (hop : op.length = op'.length) :
    commandCalls C i a op = commandCalls C i b op' := by
  obtain ⟨hphase, hdir, hpending, habuf, hdbuf⟩ := Arch.publicView_eq_iff.1 h
  cases i with
  | initEnc klen nlen | initDec klen nlen => simp only [commandCalls, Instr.rule, initRule_calls_eq]
  | aad ilen => simp only [commandCalls, Instr.rule, aadRule_calls_eq, aadOpen_congr h, hpending, habuf, hop]
  | data ilen ocap =>
    simp only [commandCalls, Instr.rule, dataRule_calls_eq, hphase, hdir, hdbuf, openAadCalls_congr h,
      messageStart_pending_congr h]
  | final ocap =>
    cases henc : b.dir with
    | true =>
      rw [commandCalls_final_of_encrypting C op (hdir.trans henc), commandCalls_final_of_encrypting C op' henc]
      simp only [finalEncRule_calls_eq, hphase, hdbuf, finalCalls_congr h hdbuf]
    | false =>
      have hreleased : (a.dbuf.take (b.dbuf.length - C.t)).length = (b.dbuf.take (b.dbuf.length - C.t)).length := by
        rw [List.length_take, List.length_take, hdbuf]
      rw [commandCalls_final_of_decrypting C op (hdir.trans henc), commandCalls_final_of_decrypting C op' henc]
      simp only [finalDecRule_calls_eq, hphase, hdbuf, finalCalls_congr h hreleased]
  | reset => simp only [commandCalls, Instr.rule, resetRule_calls_eq, hphase]
  | clear => rfl

end Schedule

/-- Settles O50 (R21, R99): the calls of each command, written out, read nothing but public inputs, and the latency reads
nothing else by its type [log 10]. -/
theorem publicInputsFixSchedule : Obligations.PublicInputsFixSchedule := by
  refine ⟨fun C i a a' op op' hview hop => commandCalls_congr hview i hop, fun w s s' hvariant hview => ?_⟩
  rw [commandLatency, commandLatency, State.cfg, State.cfg, hvariant, hview]

end Sys2Proof.Machine
